-- ==== Sys2Proof/Word.lean ====
section
/-! DEFINITION. The word types of KSG (00_scope.md R7, R10): every value is unsigned, bit 0 is the least
significant bit. The arithmetic on words stands in Machine/WordOps.lean. -/

namespace Sys2Proof

/-- A 32-bit word (00_scope.md R7, parameter WORD). -/
abbrev Word := BitVec 32

/-- One byte of a key, a nonce or a keystream block (20_memory.md R63 to R65). -/
abbrev Byte := BitVec 8

end Sys2Proof
end

