-- ==== Sys2Proof/Syntax.lean ====
section
/-! DEFINITION. The instructions: one constructor for each of the 27 rows of spec/opcode_table.json, in the table's
order. 24 rows are host accesses in format HA (30_encoding.md R81, R88), 3 are sequencer steps in format SEQ (R84). -/

namespace Sys2Proof

/-- The direction of a rejected access, with the write data where it is a write (30_encoding.md R81; a read has
none: 40_host_commands.md R100, `BusRead(addr) = Access(0, addr, 0x00000000)`, log 16). -/
inductive Dir where
  | rd
  | wr (wdata : Word)
deriving DecidableEq, Repr

/-- One constructor per row of the opcode table. -/
inductive Instr where
  /-- ACC_MISALIGNED with `addr[1:0]` = 01; `slot` is `addr[7:2]` (60_exceptions.md R160). -/
  | accMisaligned01 (dir : Dir) (slot : BitVec 6)
  /-- ACC_MISALIGNED with `addr[1:0]` = 10. -/
  | accMisaligned10 (dir : Dir) (slot : BitVec 6)
  /-- ACC_MISALIGNED with `addr[1:0]` = 11. -/
  | accMisaligned11 (dir : Dir) (slot : BitVec 6)
  /-- ACC_UNMAPPED: slots 32 to 63; `low` is `addr[6:2]` (60_exceptions.md R160). -/
  | accUnmapped (dir : Dir) (low : BitVec 5)
  /-- RD_ID (40_host_commands.md R101). -/
  | rdId
  /-- WR_ID, rejected READ_ONLY (60_exceptions.md R160). -/
  | wrId (wdata : Word)
  /-- RD_CTRL (R102). -/
  | rdCtrl
  /-- WR_CTRL (R103). -/
  | wrCtrl (wdata : Word)
  /-- RD_STATUS (R104). -/
  | rdStatus
  /-- WR_STATUS (R105). -/
  | wrStatus (wdata : Word)
  /-- RD_ERRINFO (R106). -/
  | rdErrinfo
  /-- WR_ERRINFO, rejected READ_ONLY (60_exceptions.md R160). -/
  | wrErrinfo (wdata : Word)
  /-- RD_COUNTER (R107). -/
  | rdCounter
  /-- WR_COUNTER (R108). -/
  | wrCounter (wdata : Word)
  /-- RD_NONCE, j = 0 (R109). -/
  | rdNonce0
  /-- RD_NONCE, j = 1. -/
  | rdNonce1
  /-- RD_NONCE, j = 2. -/
  | rdNonce2
  /-- WR_NONCE, j = 0 (R110). -/
  | wrNonce0 (wdata : Word)
  /-- WR_NONCE, j = 1. -/
  | wrNonce1 (wdata : Word)
  /-- WR_NONCE, j = 2. -/
  | wrNonce2 (wdata : Word)
  /-- RD_KEY, key index i (R111). -/
  | rdKey (i : Fin 8)
  /-- WR_KEY, key index i (R112). -/
  | wrKey (i : Fin 8) (wdata : Word)
  /-- RD_OUT, output index k (R113). -/
  | rdOut (k : Fin 16)
  /-- WR_OUT, rejected READ_ONLY (60_exceptions.md R160). -/
  | wrOut (k : Fin 16) (wdata : Word)
  /-- SEQ_COL: `rrrr` is RND[4:1], RND even (30_encoding.md R84, 41_block_function.md R144). -/
  | seqCol (rrrr : BitVec 4)
  /-- SEQ_DIAG: `rrrr` is RND[4:1], RND odd (R84, R145). -/
  | seqDiag (rrrr : BitVec 4)
  /-- SEQ_FINAL: `rrrrr` is RND (R84, R146). -/
  | seqFinal (rrrrr : BitVec 5)
deriving DecidableEq, Repr

end Sys2Proof
end

