-- ==== Sys2Proof/WellFormed.lean ====
section
/-! DEFINITION. Which instructions are well formed. Every HA row is well formed whatever its fields hold: the fields'
types are exactly what CMD can carry. A sequencer step is well formed for the values of RND that
30_encoding.md R84 gives it. -/

namespace Sys2Proof

/-- The ranges of RND in the table of 30_encoding.md R84: even 0..18, odd 1..19, and 20. -/
def Instr.wf : Instr → Bool
  | .seqCol rrrr => decide (rrrr ≤ 9#4)
  | .seqDiag rrrr => decide (rrrr ≤ 9#4)
  | .seqFinal rrrrr => rrrrr == 20#5
  | .accMisaligned01 _ _ | .accMisaligned10 _ _ | .accMisaligned11 _ _ | .accUnmapped _ _ => true
  | .rdId | .rdCtrl | .rdStatus | .rdErrinfo | .rdCounter => true
  | .rdNonce0 | .rdNonce1 | .rdNonce2 | .rdKey _ | .rdOut _ => true
  | .wrId _ | .wrCtrl _ | .wrStatus _ | .wrErrinfo _ | .wrCounter _ => true
  | .wrNonce0 _ | .wrNonce1 _ | .wrNonce2 _ | .wrKey _ _ | .wrOut _ _ => true

end Sys2Proof
end

