-- ==== Sys2Proof/Decode.lean ====
section
/-! DEFINITION. The decoder, written as the opcode table of 30_encoding.md R88 and R84 (rows of match and mask, the
first matching row decides), and after it the encoder, written from the same encodings. -/

namespace Sys2Proof

/-- What an agent puts before the decoder: the host a command word and its operand (format HA, 30_encoding.md R81),
the engine its sequencer state (format SEQ, R84). -/
inductive Packet where
  | ha (cmd : BitVec 9) (wdata : Word)
  | seq (v : BitVec 7)
deriving DecidableEq, Repr

/-- Why a packet is no instruction. -/
inductive DecodeReject where
  /-- No row of the HA table selects the command. Never happens (R88: the rows cover all 512 values). -/
  | noRow
  /-- PHASE = 00: the engine takes no step (R84). -/
  | seqIdle
  /-- PHASE = 11: never entered (R84). -/
  | seqUnused
deriving DecidableEq, Repr

/-- One HA row of the opcode table: its match and mask over CMD[8:0], and the instruction it reads. -/
structure HaRow where
  mtch : BitVec 9
  mask : BitVec 9
  read : BitVec 9 → Word → Instr

/-- One SEQ row of the opcode table: its match and mask over SEQ[6:0], and the instruction it reads. -/
structure SeqRow where
  mtch : BitVec 7
  mask : BitVec 7
  read : BitVec 7 → Instr

def HaRow.selects (r : HaRow) (cmd : BitVec 9) : Bool := cmd &&& r.mask == r.mtch

def SeqRow.selects (r : SeqRow) (v : BitVec 7) : Bool := v &&& r.mask == r.mtch

/-- `CMD[8]` = we, with the operand where it is a write (30_encoding.md R81). -/
def dirOf (cmd : BitVec 9) (wdata : Word) : Dir := if cmd.getLsbD 8 then .wr wdata else .rd

/-- `addr[7:2]` (20_memory.md R62). -/
def slotOf (cmd : BitVec 9) : BitVec 6 := cmd.extractLsb' 2 6

/-- `addr[6:2]`, the slot of an unmapped access below its top bit. -/
def lowSlotOf (cmd : BitVec 9) : BitVec 5 := cmd.extractLsb' 2 5

/-- The key index `i = addr[4:2]` (20_memory.md R62). -/
def keyIndexOf (cmd : BitVec 9) : Fin 8 := (cmd.extractLsb' 2 3).toFin

/-- The output index `k = addr[5:2]` (20_memory.md R62). -/
def outIndexOf (cmd : BitVec 9) : Fin 16 := (cmd.extractLsb' 2 4).toFin

/-- The HA rows of 30_encoding.md R88, in the table's order. -/
def haRows : List HaRow := [
  ⟨0x001#9, 0x003#9, fun c w => .accMisaligned01 (dirOf c w) (slotOf c)⟩,
  ⟨0x002#9, 0x003#9, fun c w => .accMisaligned10 (dirOf c w) (slotOf c)⟩,
  ⟨0x003#9, 0x003#9, fun c w => .accMisaligned11 (dirOf c w) (slotOf c)⟩,
  ⟨0x080#9, 0x083#9, fun c w => .accUnmapped (dirOf c w) (lowSlotOf c)⟩,
  ⟨0x000#9, 0x1FF#9, fun _ _ => .rdId⟩,
  ⟨0x100#9, 0x1FF#9, fun _ w => .wrId w⟩,
  ⟨0x004#9, 0x1FF#9, fun _ _ => .rdCtrl⟩,
  ⟨0x104#9, 0x1FF#9, fun _ w => .wrCtrl w⟩,
  ⟨0x008#9, 0x1FF#9, fun _ _ => .rdStatus⟩,
  ⟨0x108#9, 0x1FF#9, fun _ w => .wrStatus w⟩,
  ⟨0x00C#9, 0x1FF#9, fun _ _ => .rdErrinfo⟩,
  ⟨0x10C#9, 0x1FF#9, fun _ w => .wrErrinfo w⟩,
  ⟨0x010#9, 0x1FF#9, fun _ _ => .rdCounter⟩,
  ⟨0x110#9, 0x1FF#9, fun _ w => .wrCounter w⟩,
  ⟨0x014#9, 0x1FF#9, fun _ _ => .rdNonce0⟩,
  ⟨0x018#9, 0x1FF#9, fun _ _ => .rdNonce1⟩,
  ⟨0x01C#9, 0x1FF#9, fun _ _ => .rdNonce2⟩,
  ⟨0x114#9, 0x1FF#9, fun _ w => .wrNonce0 w⟩,
  ⟨0x118#9, 0x1FF#9, fun _ w => .wrNonce1 w⟩,
  ⟨0x11C#9, 0x1FF#9, fun _ w => .wrNonce2 w⟩,
  ⟨0x020#9, 0x1E3#9, fun c _ => .rdKey (keyIndexOf c)⟩,
  ⟨0x120#9, 0x1E3#9, fun c w => .wrKey (keyIndexOf c) w⟩,
  ⟨0x040#9, 0x1C3#9, fun c _ => .rdOut (outIndexOf c)⟩,
  ⟨0x140#9, 0x1C3#9, fun c w => .wrOut (outIndexOf c) w⟩]

/-- The SEQ rows: PHASE = SEQ[6:5] and RND[0] select the step (30_encoding.md R84). -/
def seqRows : List SeqRow := [
  ⟨0x20#7, 0x61#7, fun v => .seqCol (v.extractLsb' 1 4)⟩,
  ⟨0x21#7, 0x61#7, fun v => .seqDiag (v.extractLsb' 1 4)⟩,
  ⟨0x40#7, 0x60#7, fun v => .seqFinal (v.extractLsb' 0 5)⟩]

/-- A host command: the first row that matches decides (30_encoding.md R88). -/
def decodeHa (cmd : BitVec 9) (wdata : Word) : Except DecodeReject Instr :=
  match haRows.find? (·.selects cmd) with
  | some r => .ok (r.read cmd wdata)
  | none => .error .noRow

/-- A sequencer step (30_encoding.md R84). -/
def decodeSeq (v : BitVec 7) : Except DecodeReject Instr :=
  match seqRows.find? (·.selects v) with
  | some r => .ok (r.read v)
  | none => if v.extractLsb' 5 2 == 0#2 then .error .seqIdle else .error .seqUnused

/-- The decoder: total, rejecting by name. -/
def decode : Packet → Except DecodeReject Instr
  | .ha cmd wdata => decodeHa cmd wdata
  | .seq v => decodeSeq v

/-- `CMD` = `we || addr` with `addr` = `addr[7:2] || low` (30_encoding.md R81). -/
def cmdOf (we : Bool) (slot : BitVec 6) (low : BitVec 2) : BitVec 9 := BitVec.ofBool we ++ slot ++ low

/-- The packet of a read: no write data (log 16). -/
def readPacket (slot : BitVec 6) : Packet := .ha (cmdOf false slot 0#2) 0#32

/-- The packet of a write. -/
def writePacket (slot : BitVec 6) (wdata : Word) : Packet := .ha (cmdOf true slot 0#2) wdata

/-- The packet of an access in either direction. -/
def dirPacket (dir : Dir) (slot : BitVec 6) (low : BitVec 2) : Packet :=
  match dir with
  | .rd => .ha (cmdOf false slot low) 0#32
  | .wr wdata => .ha (cmdOf true slot low) wdata

/-- The encoder: the packet of each instruction, from the slots of 20_memory.md R61 and the formats of
30_encoding.md R81 and R84. -/
def encode : Instr → Packet
  | .accMisaligned01 dir slot => dirPacket dir slot 0b01#2
  | .accMisaligned10 dir slot => dirPacket dir slot 0b10#2
  | .accMisaligned11 dir slot => dirPacket dir slot 0b11#2
  | .accUnmapped dir low => dirPacket dir (0b1#1 ++ low) 0b00#2
  | .rdId => readPacket 0#6
  | .wrId w => writePacket 0#6 w
  | .rdCtrl => readPacket 1#6
  | .wrCtrl w => writePacket 1#6 w
  | .rdStatus => readPacket 2#6
  | .wrStatus w => writePacket 2#6 w
  | .rdErrinfo => readPacket 3#6
  | .wrErrinfo w => writePacket 3#6 w
  | .rdCounter => readPacket 4#6
  | .wrCounter w => writePacket 4#6 w
  | .rdNonce0 => readPacket 5#6
  | .rdNonce1 => readPacket 6#6
  | .rdNonce2 => readPacket 7#6
  | .wrNonce0 w => writePacket 5#6 w
  | .wrNonce1 w => writePacket 6#6 w
  | .wrNonce2 w => writePacket 7#6 w
  | .rdKey i => readPacket (0b001#3 ++ BitVec.ofNat 3 i.val)
  | .wrKey i w => writePacket (0b001#3 ++ BitVec.ofNat 3 i.val) w
  | .rdOut k => readPacket (0b01#2 ++ BitVec.ofNat 4 k.val)
  | .wrOut k w => writePacket (0b01#2 ++ BitVec.ofNat 4 k.val) w
  | .seqCol rrrr => .seq (0b01#2 ++ rrrr ++ 0b0#1)
  | .seqDiag rrrr => .seq (0b01#2 ++ rrrr ++ 0b1#1)
  | .seqFinal rrrrr => .seq (0b10#2 ++ rrrrr)

/-- The packet an instruction's number stands for, as the opcode table numbers bits (log 11). A number of more than
8 bits is an HA access: CMD in bits 8:0 of a 16-bit word (bits 15:9 are 0), `wdata` in bits 47:16. A number of at
most 8 bits is a SEQ value; where its PHASE bits are 00 (no step) or bit 7 is set (SEQ has 7 bits), it is an HA
access whose CMD[8] lies above the table's bits and is 0. -/
def tablePacket (nbits w : Nat) : Option Packet :=
  if nbits ≤ 8 then
    if 2 ^ 8 ≤ w then none
    else if 2 ^ 7 ≤ w ∨ w < 2 ^ 5 then some (.ha (BitVec.ofNat 9 w) 0#32)
    else some (.seq (BitVec.ofNat 7 w))
  else if w / 2 ^ 9 % 2 ^ 7 = 0 ∧ w < 2 ^ 48 then
    some (.ha (BitVec.ofNat 9 w) (BitVec.ofNat 32 (w / 2 ^ 16)))
  else none

/-- The instruction the decoder reads from an instruction whose bits are `w`, numbered as the opcode table does. -/
def decodeTableWord (nbits w : Nat) : Option Instr :=
  match tablePacket nbits w with
  | some p => (decode p).toOption
  | none => none

end Sys2Proof
end

