-- ==== Sys2Proof/Config.lean ====
section
/-! DEFINITION. What is fixed for one KSG (00_scope.md R7, R9), and the free values: opaque constants that
nothing can evaluate. BLOCK_LATENCY, KSG_BASE and INSTANCES are open (R9); they are arguments of the functions
that speak of them (Machine/Clock.lean, Machine/Platform.lean), never numbers chosen here. -/

namespace Sys2Proof.Config

/-- SIGMA[0..3], the default of 00_scope.md R9. PRESUMED by the spec itself (from general knowledge, not in its
source), unsafe: log 6. The block functions take SIGMA as an argument; only the machine uses this default. -/
def sigma : Vector Word 4 := #v[0x61707865, 0x3320646E, 0x79622D32, 0x6B206574]

/-- ID_VALUE (00_scope.md R9, 10_state.md R27). -/
def idValue : Word := 0x4B534731

/-- COUNTER_RESET (00_scope.md R9). -/
def counterReset : Word := 0x00000001

/-- DOUBLE_ROUNDS (00_scope.md R7; 90_conflicts.md C1: 10 double-rounds, 80 quarter-rounds). -/
def doubleRounds : Nat := 10

/-- The free value of S0 after the n-th `Reset()` edge (93_implementation_defined.md I2). Log 4, safe. -/
opaque resetS0 : Nat → Vector Word 16

/-- The free value of X after the n-th `Reset()` edge (93_implementation_defined.md I2). Log 4, safe. -/
opaque resetX : Nat → Vector Word 16

/-- The free value of RND after the n-th `Reset()` edge (93_implementation_defined.md I2). Log 4, safe. -/
opaque resetRnd : Nat → BitVec 5

end Sys2Proof.Config
end

