-- ==== Sys2Proof/Machine/WordOps.lean ====
section
/-! DEFINITION. The word operations and the byte order of 00_scope.md R11 (41_block_function.md R130, R131;
20_memory.md R63 to R65). -/

namespace Sys2Proof.Machine

/-- `add32(x, y) = (x + y) mod 2^32` (R130). -/
def add32 (x y : Word) : Word := x + y

/-- `xor32(x, y)` (R131). -/
def xor32 (x y : Word) : Word := x ^^^ y

/-- `rotl32(x, n)`, for 1 <= n <= 31 (R131). -/
def rotl32 (x : Word) (n : Nat) : Word := (x <<< n) ||| (x >>> (32 - n))

/-- `le32(b0, b1, b2, b3)`: b0 is the least significant byte (R11). -/
def le32 (b0 b1 b2 b3 : Byte) : Word := b3 ++ b2 ++ b1 ++ b0

/-- `bytes_le32(w)`: the least significant byte first (R11). -/
def bytesLe32 (w : Word) : List Byte :=
  [w.extractLsb' 0 8, w.extractLsb' 8 8, w.extractLsb' 16 8, w.extractLsb' 24 8]

end Sys2Proof.Machine
end

