-- ==== Sys2Proof/Machine/Block.lean ====
section
/-! DEFINITION. The block function (41_block_function.md R132 to R140), over the 16-word state. SIGMA is an argument
(00_scope.md R9, 93_implementation_defined.md I12). -/

namespace Sys2Proof.Machine

/-- The 16-word state of R85. -/
abbrev Words16 := Vector Word 16

/-- One line half of the quarter-round (R132): `X[a] <- add32(X[a], X[b])`, then
`X[d] <- rotl32(xor32(X[d], X[a]), n)`, the second reading what the first left. -/
def quarterStep (a b d : Fin 16) (n : Nat) (x : Words16) : Words16 :=
  let y := x.set a (add32 x[a] x[b])
  y.set d (rotl32 (xor32 y[d] y[a]) n)

/-- `QR(a, b, c, d)` (R132): the four statements in order. -/
def qr (a b c d : Fin 16) (x : Words16) : Words16 :=
  quarterStep c d b 7 (quarterStep a b d 8 (quarterStep c d b 12 (quarterStep a b d 16 x)))

/-- `ColumnRound()` (R133). -/
def columnRound (x : Words16) : Words16 :=
  qr 3 7 11 15 (qr 2 6 10 14 (qr 1 5 9 13 (qr 0 4 8 12 x)))

/-- `DiagonalRound()` (R134). -/
def diagonalRound (x : Words16) : Words16 :=
  qr 3 4 9 14 (qr 2 7 8 13 (qr 1 6 11 12 (qr 0 5 10 15 x)))

/-- `DoubleRound()` (R135). -/
def doubleRound (x : Words16) : Words16 := diagonalRound (columnRound x)

/-- `DoubleRound()` performed n times (R137). -/
def doubleRoundTimes : Nat → Words16 → Words16
  | 0, x => x
  | n + 1, x => doubleRound (doubleRoundTimes n x)

/-- The first n rounds of a computation: round r is a column round where r is even, a diagonal round where it is odd
(R143 to R145). -/
def roundTimes : Nat → Words16 → Words16
  | 0, x => x
  | n + 1, x => if n % 2 = 0 then columnRound (roundTimes n x) else diagonalRound (roundTimes n x)

/-- `Init(K, C, N)` (R136): SIGMA, the key, the counter, the nonce. -/
def initState (sigma : Vector Word 4) (k : Vector Word 8) (c : Word) (n : Vector Word 3) : Words16 :=
  #v[sigma[0], sigma[1], sigma[2], sigma[3],
     k[0], k[1], k[2], k[3], k[4], k[5], k[6], k[7],
     c, n[0], n[1], n[2]]

/-- Feed-forward (R138): `Y[i] = add32(X[i], S[i])`. -/
def feedForward (x s : Words16) : Words16 :=
  #v[add32 x[0] s[0], add32 x[1] s[1], add32 x[2] s[2], add32 x[3] s[3],
     add32 x[4] s[4], add32 x[5] s[5], add32 x[6] s[6], add32 x[7] s[7],
     add32 x[8] s[8], add32 x[9] s[9], add32 x[10] s[10], add32 x[11] s[11],
     add32 x[12] s[12], add32 x[13] s[13], add32 x[14] s[14], add32 x[15] s[15]]

/-- `BlockWords(K, C, N)` (R140): 10 double-rounds from the initial state, then the feed-forward. -/
def blockWords (sigma : Vector Word 4) (k : Vector Word 8) (c : Word) (n : Vector Word 3) : Words16 :=
  feedForward (doubleRoundTimes Config.doubleRounds (initState sigma k c n)) (initState sigma k c n)

/-- Serialisation (R139, 20_memory.md R65): the 64 bytes of 16 words, each least significant byte first. -/
def serialise (y : Words16) : List Byte := y.toList.flatMap bytesLe32

/-- `Block(K, N, C)` (R140): the 64-byte keystream block. -/
def block (sigma : Vector Word 4) (k : Vector Word 8) (n : Vector Word 3) (c : Word) : List Byte :=
  serialise (blockWords sigma k c n)

/-- The key words of an input state, `S0[4..11]` (R142). -/
def keyWords (s : Words16) : Vector Word 8 := #v[s[4], s[5], s[6], s[7], s[8], s[9], s[10], s[11]]

/-- The nonce words of an input state, `S0[13..15]` (R142). -/
def nonceWords (s : Words16) : Vector Word 3 := #v[s[13], s[14], s[15]]

end Sys2Proof.Machine
end

