-- ==== Sys2Proof/Machine/State.lean ====
section
/-! DEFINITION. The state of KSG and of its host, as plain data (10_state.md R20), the reasons a step can stop, and the
state after reset (70_reset_and_hazards.md R191). -/

namespace Sys2Proof.Machine

/-- Why the machine stops with a fault. -/
inductive Fault where
  /-- PHASE is 11 and the engine is to move (93_implementation_defined.md I3: fault). Raised by the engine's turn,
  never by an instruction. Safe: no rule ever writes 11 (30_encoding.md R84). -/
  | phaseUnused
deriving DecidableEq, Repr

/-- Why the machine refuses to go on. -/
inductive Refusal where
  /-- An instruction without a meaning. No arm of exec answers with it. Safe. -/
  | notModelled (mnemonic : String)
  /-- The host accesses while `rst_n` = 0 (70_reset_and_hazards.md R192, 93_implementation_defined.md I7: refuse).
  Raised by a reset turn with `req` = 1. Safe. -/
  | accessDuringReset
  /-- A command that no row of the opcode table selects. Raised by the host's turn for such a packet; there is none
  (30_encoding.md R88). Safe. -/
  | undecoded
deriving DecidableEq, Repr

/-- The causes of a rejected access (60_exceptions.md R160). -/
inductive Cause where
  | misaligned
  | unmapped
  | readOnly
  | busyWrite
  | busyStart
deriving DecidableEq, Repr

/-- One command of the host's program (30_encoding.md R93, R94). -/
inductive HostOp where
  /-- One access: `RD` or `WR` (R93). -/
  | access (cmd : BitVec 9) (wdata : Word)
  /-- `POLL <reg>, <mask>, <value>` (R94): read until the masked value is the one named. -/
  | poll (addr : BitVec 8) (mask value : Word)
deriving DecidableEq, Repr

/-- Who moves next (00_scope.md R15, 20_memory.md R73; log 1). -/
inductive Turn where
  /-- The host performs its next access. -/
  | host
  /-- The engine takes one step of the reference sequencer (41_block_function.md R143). -/
  | engine
  /-- The engine takes its architectural step `Complete()` (R142), in place of what is left of the sequencer's. -/
  | complete
  /-- A rising edge of `clk` with `rst_n` = 0 (70_reset_and_hazards.md R190); `req` = true: the host accesses in it. -/
  | reset (req : Bool)
deriving DecidableEq, Repr

/-- Everything the spec gives the machine (10_state.md R20), the host's program and the order of moves. -/
structure State where
  /-- KEY[0..7] (R21). -/
  key : Vector Word 8
  /-- NONCE[0..2] (R22). -/
  nonce : Vector Word 3
  /-- COUNTER (R23). -/
  counter : Word
  /-- OUT[0..15] (R24). -/
  out : Vector Word 16
  /-- CTRL.DONE_IE (R30). -/
  doneIe : Bool
  /-- CTRL.ERR_IE (R31). -/
  errIe : Bool
  /-- STATUS.BUSY (R33). -/
  busy : Bool
  /-- STATUS.DONE (R34). -/
  done : Bool
  /-- STATUS.ERR (R35). -/
  err : Bool
  /-- STATUS.ECODE (R36). -/
  ecode : BitVec 3
  /-- ERRINFO.EADDR (R38). -/
  eaddr : BitVec 8
  /-- ERRINFO.EWE (R38). -/
  ewe : Bool
  /-- S0[0..15], the latched input state (R39). -/
  s0 : Vector Word 16
  /-- X[0..15], the working state (R40). -/
  x : Vector Word 16
  /-- PHASE: 00 IDLE, 01 ROUND, 10 FINAL, 11 unused (R41). -/
  phase : BitVec 2
  /-- RND (R41). -/
  rnd : BitVec 5
  /-- The port `rdata`, the response of the last access (30_encoding.md R80, 70_reset_and_hazards.md R203). -/
  rdata : Word
  /-- The port `err`, the response of the last access (R80, R203). -/
  errOut : Bool
  /-- What the host has still to do (30_encoding.md R93; log 2). -/
  host : List HostOp
  /-- Who moves next; where the list is empty, see step (log 1). The model's own field. -/
  turns : List Turn
  /-- How many `Reset()` edges have drawn free values (log 4). The model's own field. -/
  draws : Nat
deriving DecidableEq, Repr

/-- The machine right after reset (70_reset_and_hazards.md R191). S0, X and RND, which the spec leaves unspecified,
are zero (DESIGN CHOICE, unsafe: log 3); the response ports are zero (DESIGN CHOICE, unsafe: log 5); no host program
is placed and no turn is given (logs 1, 2). -/
def State.reset : State where
  key := Vector.replicate 8 0#32
  nonce := Vector.replicate 3 0#32
  counter := Config.counterReset
  out := Vector.replicate 16 0#32
  doneIe := false
  errIe := false
  busy := false
  done := false
  err := false
  ecode := 0#3
  eaddr := 0#8
  ewe := false
  s0 := Vector.replicate 16 0#32
  x := Vector.replicate 16 0#32
  phase := 0b00#2
  rnd := 0#5
  rdata := 0#32
  errOut := false
  host := []
  turns := []
  draws := 0

end Sys2Proof.Machine
end

