-- ==== Sys2Proof/Machine/Flags.lean ====
section
/-! DEFINITION. The flags: the interrupt level (10_state.md R42), the cause codes (60_exceptions.md R160) and the words
that reads of CTRL, STATUS and ERRINFO assemble from the stored bits (30_encoding.md R87). -/

namespace Sys2Proof.Machine

/-- `irq = (DONE and DONE_IE) or (ERR and ERR_IE)` (10_state.md R42). -/
def irq (s : State) : Bool := (s.done && s.doneIe) || (s.err && s.errIe)

/-- The cause codes 1 to 5 (60_exceptions.md R160); 0, 6 and 7 are no cause's. -/
def causeCode : Cause → BitVec 3
  | .misaligned => 1#3
  | .unmapped => 2#3
  | .readOnly => 3#3
  | .busyWrite => 4#3
  | .busyStart => 5#3

/-- `rdata(CTRL) = zext_32(ERR_IE || DONE_IE || 0)` (30_encoding.md R87). -/
def ctrlWord (s : State) : Word :=
  (BitVec.ofBool s.errIe ++ BitVec.ofBool s.doneIe ++ 0b0#1).setWidth 32

/-- `rdata(STATUS) = zext_32(IRQ || ECODE || 0 || ERR || DONE || BUSY)` (30_encoding.md R87). -/
def statusWord (s : State) : Word :=
  (BitVec.ofBool (irq s) ++ s.ecode ++ 0b0#1 ++ BitVec.ofBool s.err ++ BitVec.ofBool s.done
    ++ BitVec.ofBool s.busy).setWidth 32

/-- `rdata(ERRINFO) = zext_32(EWE || EADDR)` (30_encoding.md R87). -/
def errinfoWord (s : State) : Word := (BitVec.ofBool s.ewe ++ s.eaddr).setWidth 32

end Sys2Proof.Machine
end

