-- ==== Sys2Proof/Machine/Ops.lean ====
section
/-! DEFINITION. The shared operations over the registers: the response of an access, taking an access error (KSG's one
exception) and clearing it, starting a block, completing one, and `Reset()`. -/

namespace Sys2Proof.Machine

/-- An access's response on the ports `rdata` and `err` (30_encoding.md R82, 70_reset_and_hazards.md R203). -/
def respond (rdata : Word) (err : Bool) (s : State) : State := { s with rdata := rdata, errOut := err }

/-- An accepted read: the value, `err` = 0, no side effect (30_encoding.md R82, 20_memory.md R70). -/
def acceptRead (value : Word) (s : State) : State := respond value false s

/-- An accepted write's response: `rdata` = 0, `err` = 0 (30_encoding.md R82). -/
def acceptWrite (s : State) : State := respond 0#32 false s

/-- `RecordError(code, addr, we)` (60_exceptions.md R163): only the first error is kept. -/
def recordError (c : Cause) (addr : BitVec 8) (we : Bool) (s : State) : State :=
  if s.err then s else { s with err := true, ecode := causeCode c, eaddr := addr, ewe := we }

/-- `AccessError(code, addr, we)` (60_exceptions.md R162): the error record and the response (0, 1), nothing else. -/
def accessError (c : Cause) (addr : BitVec 8) (we : Bool) (s : State) : State :=
  respond 0#32 true (recordError c addr we s)

/-- The acknowledgement of a completion, WR_STATUS with `wdata[1]` = 1 (40_host_commands.md R105). -/
def clearDone (s : State) : State := { s with done := false }

/-- The clearing of the error record, WR_STATUS with `wdata[2]` = 1 (40_host_commands.md R105). KSG has no other
return from an error (60_exceptions.md R170). -/
def clearError (s : State) : State := { s with err := false, ecode := 0#3, eaddr := 0#8, ewe := false }

/-- The interrupt enables (10_state.md R30, R31). -/
def setEnables (doneIe errIe : Bool) (s : State) : State := { s with doneIe := doneIe, errIe := errIe }

/-- A write of KEY[i] (40_host_commands.md R112). -/
def setKey (i : Fin 8) (v : Word) (s : State) : State := { s with key := s.key.set i v }

/-- A write of NONCE[j] (40_host_commands.md R110). -/
def setNonce (j : Fin 3) (v : Word) (s : State) : State := { s with nonce := s.nonce.set j v }

/-- A write of COUNTER (40_host_commands.md R108). -/
def setCounter (v : Word) (s : State) : State := { s with counter := v }

/-- The input state an accepted START latches: `Init(KEY, COUNTER, NONCE)` (41_block_function.md R141). -/
def latchedInputs (s : State) : Words16 := initState Config.sigma s.key s.counter s.nonce

/-- `StartBlock()` (41_block_function.md R141). -/
def startBlock (s : State) : State :=
  { s with s0 := latchedInputs s, x := latchedInputs s, busy := true, done := false, phase := 0b01#2, rnd := 0#5 }

/-- The publication of a block: what `Complete()` and SEQ_FINAL write besides computing it, in one step
(41_block_function.md R142, R146, R149; 20_memory.md R78). -/
def publish (y : Words16) (s : State) : State :=
  { s with out := y, counter := add32 s.s0[12] 1#32, busy := false, done := true, phase := 0b00#2 }

/-- `Complete()` (41_block_function.md R142): the block of the latched inputs, published. -/
def complete (s : State) : State :=
  publish (blockWords Config.sigma (keyWords s.s0) s.s0[12] (nonceWords s.s0)) s

/-- A write to an input register (slots 4 to 15): accepted only while BUSY is 0 (40_host_commands.md R100,
70_reset_and_hazards.md R195). -/
def guardedWrite (addr : BitVec 8) (write : State → State) (s : State) : State :=
  if s.busy then accessError .busyWrite addr true s else acceptWrite (write s)

/-- `Reset()` at an edge with `rst_n` = 0 (70_reset_and_hazards.md R190, R191). S0, X and RND take free values
(93_implementation_defined.md I2; log 4); the response ports keep the last response (R203; log 5), and the host's
program and the turns, which are not KSG's, stay. -/
def resetEdge (s : State) : State :=
  { s with
    key := Vector.replicate 8 0#32, nonce := Vector.replicate 3 0#32, counter := Config.counterReset
    out := Vector.replicate 16 0#32, doneIe := false, errIe := false
    busy := false, done := false, err := false, ecode := 0#3, eaddr := 0#8, ewe := false
    phase := 0b00#2
    s0 := Config.resetS0 s.draws, x := Config.resetX s.draws, rnd := Config.resetRnd s.draws
    draws := s.draws + 1 }

end Sys2Proof.Machine
end

