-- ==== Sys2Proof/Machine/Engine.lean ====
section
/-! DEFINITION. The steps of the reference sequencer (41_block_function.md R143 to R146). -/

namespace Sys2Proof.Machine

/-- SEQ_COL (R144): one column round, RND <- RND + 1. -/
def execSeqCol (s : State) : Host.Outcome State Fault Refusal :=
  .next { s with x := columnRound s.x, rnd := s.rnd + 1#5 }

/-- SEQ_DIAG (R145): one diagonal round, RND <- RND + 1, and to FINAL where RND has become 20. -/
def execSeqDiag (s : State) : Host.Outcome State Fault Refusal :=
  .next { s with
    x := diagonalRound s.x, rnd := s.rnd + 1#5
    phase := if s.rnd + 1#5 == 20#5 then 0b10#2 else s.phase }

/-- SEQ_FINAL (R146): the feed-forward of the working state, published. -/
def execSeqFinal (s : State) : Host.Outcome State Fault Refusal :=
  .next (publish (feedForward s.x s.s0) s)

end Sys2Proof.Machine
end

