-- ==== Sys2Proof/Machine/Operands.lean ====
section
/-! DEFINITION. Operand forms: the fields of a write's data (30_encoding.md R86) and the byte addresses of the slots
(20_memory.md R61), which a rejected access records. -/

namespace Sys2Proof.Machine

/-- `start = wdata[0]` of WR_CTRL (R86). -/
def startField (wdata : Word) : Bool := wdata.getLsbD 0

/-- `done_ie = wdata[1]` of WR_CTRL (R86). -/
def doneIeField (wdata : Word) : Bool := wdata.getLsbD 1

/-- `err_ie = wdata[2]` of WR_CTRL (R86). -/
def errIeField (wdata : Word) : Bool := wdata.getLsbD 2

/-- `clr_done = wdata[1]` of WR_STATUS (R86). -/
def clrDoneField (wdata : Word) : Bool := wdata.getLsbD 1

/-- `clr_err = wdata[2]` of WR_STATUS (R86). -/
def clrErrField (wdata : Word) : Bool := wdata.getLsbD 2

/-- The byte address with `addr[7:2] = slot` and `addr[1:0] = low` (20_memory.md R60). -/
def byteAddr (slot : BitVec 6) (low : BitVec 2) : BitVec 8 := slot ++ low

def idAddr : BitVec 8 := 0x00#8
def ctrlAddr : BitVec 8 := 0x04#8
def statusAddr : BitVec 8 := 0x08#8
def errinfoAddr : BitVec 8 := 0x0C#8
def counterAddr : BitVec 8 := 0x10#8

/-- NONCE[j] at 0x14 + 4j (20_memory.md R61). -/
def nonceAddr (j : Fin 3) : BitVec 8 := 0x14#8 + 4#8 * BitVec.ofNat 8 j.val

/-- KEY[i] at 0x20 + 4i (R61). -/
def keyAddr (i : Fin 8) : BitVec 8 := 0x20#8 + 4#8 * BitVec.ofNat 8 i.val

/-- OUT[k] at 0x40 + 4k (R61). -/
def outAddr (k : Fin 16) : BitVec 8 := 0x40#8 + 4#8 * BitVec.ofNat 8 k.val

/-- The direction bit `we` of an access (30_encoding.md R81). -/
def isWrite : Dir → Bool
  | .rd => false
  | .wr _ => true

end Sys2Proof.Machine
end

