-- ==== Sys2Proof/Machine/HostRead.lean ====
section
/-! DEFINITION. The accepted reads (40_host_commands.md). None has a side effect (20_memory.md R70). -/

namespace Sys2Proof.Machine

/-- RD_ID (R101). -/
def execRdId (s : State) : Host.Outcome State Fault Refusal := .next (acceptRead Config.idValue s)

/-- RD_CTRL (R102): START reads 0. -/
def execRdCtrl (s : State) : Host.Outcome State Fault Refusal := .next (acceptRead (ctrlWord s) s)

/-- RD_STATUS (R104). -/
def execRdStatus (s : State) : Host.Outcome State Fault Refusal := .next (acceptRead (statusWord s) s)

/-- RD_ERRINFO (R106). -/
def execRdErrinfo (s : State) : Host.Outcome State Fault Refusal := .next (acceptRead (errinfoWord s) s)

/-- RD_COUNTER (R107). -/
def execRdCounter (s : State) : Host.Outcome State Fault Refusal := .next (acceptRead s.counter s)

/-- RD_NONCE, j = 0 (R109). -/
def execRdNonce0 (s : State) : Host.Outcome State Fault Refusal := .next (acceptRead s.nonce[0] s)

/-- RD_NONCE, j = 1 (R109). -/
def execRdNonce1 (s : State) : Host.Outcome State Fault Refusal := .next (acceptRead s.nonce[1] s)

/-- RD_NONCE, j = 2 (R109). -/
def execRdNonce2 (s : State) : Host.Outcome State Fault Refusal := .next (acceptRead s.nonce[2] s)

/-- RD_KEY (R111): the key is write-only and reads 0 whatever `i` and KEY[i] are. -/
def execRdKey (s : State) : Host.Outcome State Fault Refusal := .next (acceptRead 0#32 s)

/-- RD_OUT (R113): the last completed block's word, also while BUSY. -/
def execRdOut (k : Fin 16) (s : State) : Host.Outcome State Fault Refusal := .next (acceptRead s.out[k] s)

end Sys2Proof.Machine
end

