-- ==== Sys2Proof/Machine/HostWrite.lean ====
section
/-! DEFINITION. The writes of CTRL, STATUS and the input registers (40_host_commands.md), with the busy checks of
R100. -/

namespace Sys2Proof.Machine

/-- WR_CTRL (R103): rejected BUSY_START where it asks for a START while BUSY; else the enables, and with START the
block's start in the same access. -/
def execWrCtrl (wdata : Word) (s : State) : Host.Outcome State Fault Refusal :=
  if startField wdata && s.busy then .next (accessError .busyStart ctrlAddr true s)
  else if startField wdata then
    .next (acceptWrite (startBlock (setEnables (doneIeField wdata) (errIeField wdata) s)))
  else .next (acceptWrite (setEnables (doneIeField wdata) (errIeField wdata) s))

/-- WR_STATUS (R105): clears DONE and the error record as its bits say; never rejected. -/
def execWrStatus (wdata : Word) (s : State) : Host.Outcome State Fault Refusal :=
  let s1 := if clrDoneField wdata then clearDone s else s
  let s2 := if clrErrField wdata then clearError s1 else s1
  .next (acceptWrite s2)

/-- WR_COUNTER (R108). -/
def execWrCounter (wdata : Word) (s : State) : Host.Outcome State Fault Refusal :=
  .next (guardedWrite counterAddr (setCounter wdata) s)

/-- WR_NONCE, j = 0 (R110). -/
def execWrNonce0 (wdata : Word) (s : State) : Host.Outcome State Fault Refusal :=
  .next (guardedWrite (nonceAddr 0) (setNonce 0 wdata) s)

/-- WR_NONCE, j = 1 (R110). -/
def execWrNonce1 (wdata : Word) (s : State) : Host.Outcome State Fault Refusal :=
  .next (guardedWrite (nonceAddr 1) (setNonce 1 wdata) s)

/-- WR_NONCE, j = 2 (R110). -/
def execWrNonce2 (wdata : Word) (s : State) : Host.Outcome State Fault Refusal :=
  .next (guardedWrite (nonceAddr 2) (setNonce 2 wdata) s)

/-- WR_KEY (R112). -/
def execWrKey (i : Fin 8) (wdata : Word) (s : State) : Host.Outcome State Fault Refusal :=
  .next (guardedWrite (keyAddr i) (setKey i wdata) s)

end Sys2Proof.Machine
end

