-- ==== Sys2Proof/Machine/Rejected.lean ====
section
/-! DEFINITION. The rows that are always rejected (30_encoding.md R89): their meaning is to take the access error of
60_exceptions.md R160 to R163. -/

namespace Sys2Proof.Machine

/-- ACC_MISALIGNED, `addr[1:0]` = 01 (60_exceptions.md R160, code 1). -/
def execAccMisaligned01 (dir : Dir) (slot : BitVec 6) (s : State) : Host.Outcome State Fault Refusal :=
  .next (accessError .misaligned (byteAddr slot 0b01#2) (isWrite dir) s)

/-- ACC_MISALIGNED, `addr[1:0]` = 10 (R160, code 1). -/
def execAccMisaligned10 (dir : Dir) (slot : BitVec 6) (s : State) : Host.Outcome State Fault Refusal :=
  .next (accessError .misaligned (byteAddr slot 0b10#2) (isWrite dir) s)

/-- ACC_MISALIGNED, `addr[1:0]` = 11 (R160, code 1). -/
def execAccMisaligned11 (dir : Dir) (slot : BitVec 6) (s : State) : Host.Outcome State Fault Refusal :=
  .next (accessError .misaligned (byteAddr slot 0b11#2) (isWrite dir) s)

/-- ACC_UNMAPPED: slots 32 to 63 (R160, code 2; 20_memory.md R71). -/
def execAccUnmapped (dir : Dir) (low : BitVec 5) (s : State) : Host.Outcome State Fault Refusal :=
  .next (accessError .unmapped (byteAddr (0b1#1 ++ low) 0b00#2) (isWrite dir) s)

/-- WR_ID (R160, code 3). -/
def execWrId (s : State) : Host.Outcome State Fault Refusal :=
  .next (accessError .readOnly idAddr true s)

/-- WR_ERRINFO (R160, code 3). -/
def execWrErrinfo (s : State) : Host.Outcome State Fault Refusal :=
  .next (accessError .readOnly errinfoAddr true s)

/-- WR_OUT (R160, code 3). -/
def execWrOut (k : Fin 16) (s : State) : Host.Outcome State Fault Refusal :=
  .next (accessError .readOnly (outAddr k) true s)

end Sys2Proof.Machine
end

