-- ==== Sys2Proof/Machine/Dispatch.lean ====
section
/-! DEFINITION. exec: one arm per constructor of Instr, each one call of the instruction's meaning. -/

namespace Sys2Proof.Machine

def exec (i : Instr) (s : State) : Host.Outcome State Fault Refusal :=
  match i with
  | .accMisaligned01 dir slot => Sys2Proof.Machine.execAccMisaligned01 dir slot s
  | .accMisaligned10 dir slot => Sys2Proof.Machine.execAccMisaligned10 dir slot s
  | .accMisaligned11 dir slot => Sys2Proof.Machine.execAccMisaligned11 dir slot s
  | .accUnmapped dir low => Sys2Proof.Machine.execAccUnmapped dir low s
  | .rdId => Sys2Proof.Machine.execRdId s
  | .wrId _ => Sys2Proof.Machine.execWrId s
  | .rdCtrl => Sys2Proof.Machine.execRdCtrl s
  | .wrCtrl wdata => Sys2Proof.Machine.execWrCtrl wdata s
  | .rdStatus => Sys2Proof.Machine.execRdStatus s
  | .wrStatus wdata => Sys2Proof.Machine.execWrStatus wdata s
  | .rdErrinfo => Sys2Proof.Machine.execRdErrinfo s
  | .wrErrinfo _ => Sys2Proof.Machine.execWrErrinfo s
  | .rdCounter => Sys2Proof.Machine.execRdCounter s
  | .wrCounter wdata => Sys2Proof.Machine.execWrCounter wdata s
  | .rdNonce0 => Sys2Proof.Machine.execRdNonce0 s
  | .rdNonce1 => Sys2Proof.Machine.execRdNonce1 s
  | .rdNonce2 => Sys2Proof.Machine.execRdNonce2 s
  | .wrNonce0 wdata => Sys2Proof.Machine.execWrNonce0 wdata s
  | .wrNonce1 wdata => Sys2Proof.Machine.execWrNonce1 wdata s
  | .wrNonce2 wdata => Sys2Proof.Machine.execWrNonce2 wdata s
  | .rdKey _ => Sys2Proof.Machine.execRdKey s
  | .wrKey k wdata => Sys2Proof.Machine.execWrKey k wdata s
  | .rdOut k => Sys2Proof.Machine.execRdOut k s
  | .wrOut k _ => Sys2Proof.Machine.execWrOut k s
  | .seqCol _ => Sys2Proof.Machine.execSeqCol s
  | .seqDiag _ => Sys2Proof.Machine.execSeqDiag s
  | .seqFinal _ => Sys2Proof.Machine.execSeqFinal s

end Sys2Proof.Machine
end

