-- ==== Sys2Proof/Machine/Agents.lean ====
section
/-! DEFINITION. What one move of each agent does (00_scope.md R15, 20_memory.md R73): the host performs its next
access, the engine takes one step of the sequencer or completes, the reset pin resets. -/

namespace Sys2Proof.Machine

/-- Decode a packet and run its instruction. The engine with PHASE = 00 takes no step (30_encoding.md R84; log 8);
with PHASE = 11 the model faults (93_implementation_defined.md I3; log 9). -/
def runPacket (p : Packet) (s : State) : Host.Outcome State Fault Refusal :=
  match decode p with
  | .ok i => exec i s
  | .error .noRow => .refused .undecoded
  | .error .seqIdle => .next s
  | .error .seqUnused => .fault .phaseUnused

/-- The packet of a read of the byte address `addr`: `CMD` = 0 || addr (30_encoding.md R81). -/
def pollPacket (addr : BitVec 8) : Packet := .ha (0b0#1 ++ addr) 0#32

/-- Where a POLL stands after its read: done where the masked value is the one named, else to be read again
(30_encoding.md R94; log 13). -/
def pollNext (mask value : Word) (rest : List HostOp) (t : State) : State :=
  if t.rdata &&& mask = value then { t with host := rest } else t

/-- One move of the host: its next access, or one read of a POLL. A host with nothing to do leaves KSG as it is
(log 8). -/
def hostMove (s : State) : Host.Outcome State Fault Refusal :=
  match s.host with
  | [] => .next s
  | .access cmd wdata :: rest => runPacket (.ha cmd wdata) { s with host := rest }
  | .poll addr mask value :: rest =>
    match runPacket (pollPacket addr) s with
    | .next t => .next (pollNext mask value rest t)
    | .fault r => .fault r
    | .refused r => .refused r

/-- `SEQ` = PHASE || RND (30_encoding.md R84). -/
def seqPacket (s : State) : Packet := .seq (s.phase ++ s.rnd)

/-- One move of the engine: the sequencer's step selected by PHASE and RND (30_encoding.md R84). -/
def engineMove (s : State) : Host.Outcome State Fault Refusal := runPacket (seqPacket s) s

/-- The engine's architectural step: `Complete()`, enabled exactly when BUSY = 1 (41_block_function.md R142; log 8). -/
def completeMove (s : State) : Host.Outcome State Fault Refusal :=
  if s.busy then .next (complete s) else .next s

/-- An edge with `rst_n` = 0 (70_reset_and_hazards.md R190, R192; log 10). -/
def resetMove (req : Bool) (s : State) : Host.Outcome State Fault Refusal :=
  if req then .refused .accessDuringReset else .next (resetEdge s)

/-- One agent's move. -/
def takeTurn (t : Turn) (s : State) : Host.Outcome State Fault Refusal :=
  match t with
  | .host => hostMove s
  | .engine => engineMove s
  | .complete => completeMove s
  | .reset req => resetMove req s

/-- Who moves where no turn is given: the engine while it has a step to take, else the host (log 1). -/
def defaultTurn (s : State) : Turn := if s.phase = 0b00#2 then .host else .engine

/-- Place an instruction's packet where its agent takes its next one from, and give that agent the next turn. -/
def placePacket (p : Packet) (s : State) : State :=
  match p with
  | .ha cmd wdata => { s with host := .access cmd wdata :: s.host, turns := .host :: s.turns }
  | .seq v => { s with phase := v.extractLsb' 5 2, rnd := v.extractLsb' 0 5, turns := .engine :: s.turns }

end Sys2Proof.Machine
end

