-- ==== Sys2Proof/Machine/Step.lean ====
section
/-! DEFINITION. One step: one agent's move, the next in `turns` (20_memory.md R73; log 1). -/

namespace Sys2Proof.Machine

/-- One step of the machine. -/
def step (s : State) : Host.Outcome State Fault Refusal :=
  match s.turns with
  | t :: rest => takeTurn t { s with turns := rest }
  | [] => takeTurn (defaultTurn s) s

/-- The state with the instruction whose bits are `w` placed where step fetches its next one (log 11): an access at
the head of the host's program, a sequencer step in PHASE and RND, and its agent's turn next. A number that is no
packet changes nothing. -/
def State.withFetchWord (s : State) (nbits w : Nat) : State :=
  match tablePacket nbits w with
  | some p => placePacket p s
  | none => s

end Sys2Proof.Machine
end

