-- ==== Sys2Proof/Machine/Access.lean ====
section
/-! DEFINITION. The access of 40_host_commands.md R100 as one function of direction, address and data, beside the
table: the checks in the order written, and what makes a whole access. The step does not use it; statements compare
the two. -/

namespace Sys2Proof.Machine

/-- The checks of R100, in order: the cause of the first that applies (60_exceptions.md R160, R161). -/
def accessCause (we : Bool) (addr : BitVec 8) (wdata : Word) (busy : Bool) : Option Cause :=
  let w := (addr.extractLsb' 2 6).toNat
  if addr.extractLsb' 0 2 ≠ 0#2 then some .misaligned
  else if 32 ≤ w then some .unmapped
  else if we = true ∧ (w = 0 ∨ w = 3 ∨ 16 ≤ w) then some .readOnly
  else if we = true ∧ (4 ≤ w ∧ w ≤ 15) ∧ busy = true then some .busyWrite
  else if we = true ∧ w = 1 ∧ wdata.getLsbD 0 = true ∧ busy = true then some .busyStart
  else none

/-- The packet of `Access(we, addr, wdata)`: `CMD` = we || addr (30_encoding.md R81, 40_host_commands.md R100). -/
def accessPacket (we : Bool) (addr : BitVec 8) (wdata : Word) : Packet := .ha (BitVec.ofBool we ++ addr) wdata

/-- `Access(we, addr, wdata)` (40_host_commands.md R100), its response on `rdata` and `errOut`. -/
def access (we : Bool) (addr : BitVec 8) (wdata : Word) (s : State) : Host.Outcome State Fault Refusal :=
  runPacket (accessPacket we addr wdata) s

end Sys2Proof.Machine
end

