-- ==== Sys2Proof/Machine/Clock.lean ====
section
/-! DEFINITION. Clock edges as turns (30_encoding.md R80, 20_memory.md R73, 60_exceptions.md R169,
70_reset_and_hazards.md R190, R202). State does not count cycles (log 7); these functions say which turns one edge,
or the edges of one block's latency, are. -/

namespace Sys2Proof.Machine

/-- The turns of one rising edge: with `rst_n` = 0 the reset; else the host's access where `req` = 1, and after it what
the engine does at this edge (R73: the access is ordered first). -/
def edgeTurns (rstN req : Bool) (engine : List Turn) : List Turn :=
  if rstN then (if req then [.host] else []) ++ engine else [.reset req]

/-- The reference sequencer at an edge: one step where it was busy before the edge (41_block_function.md R143). -/
def sequencerTurns (busyBefore : Bool) : List Turn := if busyBefore then [.engine] else []

/-- The turns of the edges after an accepted START up to its completion: one edge for each entry of `reqs` (does the
host access in it?), BLOCK_LATENCY = the number of entries, the completion at the last edge, after its access (R202,
R73). -/
def latencyTurns : List Bool → List Turn
  | [] => []
  | [req] => edgeTurns true req [.complete]
  | req :: rest => edgeTurns true req [] ++ latencyTurns rest

end Sys2Proof.Machine
end

