-- ==== Sys2Proof/Machine/HostSide.lean ====
section
/-! DEFINITION. The host's side: byte sequences and words (20_memory.md R63 to R65), the pseudo-instructions of
30_encoding.md R94 as host programs, and the host software of 41_block_function.md R147 and R148. None of it is KSG
hardware (00_scope.md R6; log 15). -/

namespace Sys2Proof.Machine

/-- `KEY[i] = le32(key[4i], .., key[4i+3])` (20_memory.md R63). -/
def keyWordOf (key : Vector Byte 32) (i : Fin 8) : Word :=
  le32 key[4 * i.val] key[4 * i.val + 1] key[4 * i.val + 2] key[4 * i.val + 3]

/-- The eight key words of 32 key bytes (R63). -/
def keyOfBytes (key : Vector Byte 32) : Vector Word 8 :=
  #v[keyWordOf key 0, keyWordOf key 1, keyWordOf key 2, keyWordOf key 3,
     keyWordOf key 4, keyWordOf key 5, keyWordOf key 6, keyWordOf key 7]

/-- `NONCE[j] = le32(nonce[4j], .., nonce[4j+3])` (20_memory.md R64). -/
def nonceWordOf (nonce : Vector Byte 12) (j : Fin 3) : Word :=
  le32 nonce[4 * j.val] nonce[4 * j.val + 1] nonce[4 * j.val + 2] nonce[4 * j.val + 3]

/-- The three nonce words of 12 nonce bytes (R64). -/
def nonceOfBytes (nonce : Vector Byte 12) : Vector Word 3 :=
  #v[nonceWordOf nonce 0, nonceWordOf nonce 1, nonceWordOf nonce 2]

/-- `RD @<addr>` (30_encoding.md R93). -/
def opRd (addr : BitVec 8) : HostOp := .access (0b0#1 ++ addr) 0#32

/-- `WR @<addr>, <value>` (R93). -/
def opWr (addr : BitVec 8) (v : Word) : HostOp := .access (0b1#1 ++ addr) v

/-- `LDKEY` (R94): the eight key words in order. -/
def ldKey (key : Vector Byte 32) : List HostOp :=
  [opWr 0x20#8 (keyWordOf key 0), opWr 0x24#8 (keyWordOf key 1), opWr 0x28#8 (keyWordOf key 2),
   opWr 0x2C#8 (keyWordOf key 3), opWr 0x30#8 (keyWordOf key 4), opWr 0x34#8 (keyWordOf key 5),
   opWr 0x38#8 (keyWordOf key 6), opWr 0x3C#8 (keyWordOf key 7)]

/-- `LDNONCE` (R94). -/
def ldNonce (nonce : Vector Byte 12) : List HostOp :=
  [opWr 0x14#8 (nonceWordOf nonce 0), opWr 0x18#8 (nonceWordOf nonce 1), opWr 0x1C#8 (nonceWordOf nonce 2)]

/-- `START` (R94). -/
def opStart : HostOp := opWr 0x04#8 0x00000001#32

/-- `STARTI` (R94). -/
def opStartI : HostOp := opWr 0x04#8 0x00000003#32

/-- `WAIT` = `POLL STATUS, 1, 0` (R94). -/
def opWait : HostOp := .poll 0x08#8 0x00000001#32 0x00000000#32

/-- `ACK` (R94). -/
def opAck : HostOp := opWr 0x08#8 0x00000002#32

/-- `CLRERR` (R94). -/
def opClrErr : HostOp := opWr 0x08#8 0x00000004#32

/-- `RDBLK` (R94): OUT[0] to OUT[15] in order. -/
def rdBlk : List HostOp := (List.range 16).map fun k => opRd (0x40#8 + 4#8 * BitVec.ofNat 8 k)

/-- `GEN` (R94). -/
def gen : List HostOp := [opStart, opWait] ++ rdBlk

/-- `REPEAT n` (R94). -/
def repeatOps (n : Nat) (ops : List HostOp) : List HostOp := (List.replicate n ops).flatten

/-- The keystream of `nb` blocks from counter 1 (41_block_function.md R147). -/
def keystream (sigma : Vector Word 4) (k : Vector Word 8) (n : Vector Word 3) (nb : Nat) : List Byte :=
  (List.range nb).flatMap fun i => block sigma k n (BitVec.ofNat 32 (1 + i))

/-- `Transform(m, K, N)` (R147): `ceil(L / 64)` blocks, cut to the message's length, XORed byte by byte. -/
def transform (sigma : Vector Word 4) (m : List Byte) (k : Vector Word 8) (n : Vector Word 3) : List Byte :=
  List.zipWith (· ^^^ ·) m (keystream sigma k n ((m.length + 63) / 64))

/-- `NormKey(p)` (R148): `ceil(32 / n) + 1` copies, the first 32 bytes. An empty passphrase is a contract violation and
is refused (93_implementation_defined.md I1). -/
def normKey (p : List Byte) : Option (List Byte) :=
  if p.length = 0 then none
  else some ((List.replicate ((32 + p.length - 1) / p.length + 1) p).flatten.take 32)

end Sys2Proof.Machine
end

