-- ==== Sys2Proof/Machine/Platform.lean ====
section
/-! DEFINITION. The platform's side of KSG: the window in the system's address map (20_memory.md R60) and several
instances (60_exceptions.md R173). KSG_BASE and INSTANCES are open parameters, arguments here (log 14). -/

namespace Sys2Proof.Machine

/-- The byte address `addr[7:0]` that KSG sees of a system address, where the window of 256 bytes at `base` holds it
(20_memory.md R60, R71). -/
def windowOffset (base sys : Nat) : Option (BitVec 8) :=
  if base ≤ sys ∧ sys < base + 256 then some (BitVec.ofNat 8 (sys - base)) else none

/-- One step of instance `n` of a platform: INSTANCES independent copies, no shared state (60_exceptions.md R173). -/
def platformStep (n : Nat) (p : List State) : Host.Outcome (List State) Fault Refusal :=
  match p[n]? with
  | none => .next p
  | some s =>
    match step s with
    | .next t => .next (p.set n t)
    | .fault r => .fault r
    | .refused r => .refused r

/-- Steps of a platform: the instances named in `ns` step, one after the other, up to the first fault or refusal. -/
def platformRun : List Nat → List State → Host.Outcome (List State) Fault Refusal
  | [], p => .next p
  | n :: ns, p =>
    match platformStep n p with
    | .next q => platformRun ns q
    | .fault r => .fault r
    | .refused r => .refused r

end Sys2Proof.Machine
end

