-- ==== Sys2Proof/Safety.lean ====
section
/-! DEFINITION. What counts as a safe state of KSG, and what a host can see of one. Each part of the invariant is a
sentence of the spec about every state a run reaches. -/

namespace Sys2Proof.Machine

/-- BUSY is 1 exactly when PHASE is ROUND or FINAL, PHASE is never 11 (10_state.md R41), and RND is in 0..19 in ROUND and
20 in FINAL (30_encoding.md R84). -/
abbrev PhaseOk (s : State) : Prop :=
  (s.busy = true ↔ s.phase = 0b01#2 ∨ s.phase = 0b10#2) ∧ s.phase ≠ 0b11#2 ∧
  (s.phase = 0b01#2 → s.rnd.toNat < 20) ∧ (s.phase = 0b10#2 → s.rnd.toNat = 20)

/-- ECODE is 0 exactly when ERR is 0 and else 1 to 5 (10_state.md R36), and ERRINFO is 0 while ERR is 0
(10_state.md R38, 40_host_commands.md R106). -/
abbrev ErrorOk (s : State) : Prop :=
  (s.err = false → s.ecode = 0#3 ∧ s.eaddr = 0#8 ∧ s.ewe = false) ∧
  (s.err = true → 1 ≤ s.ecode.toNat ∧ s.ecode.toNat ≤ 5)

/-- While BUSY, DONE is 0 (40_host_commands.md R105, 60_exceptions.md R170). -/
abbrev DoneOk (s : State) : Prop := s.busy = true → s.done = false

/-- While BUSY, S0 is the initial state of the input registers as they stand: none can have changed since the START
(20_memory.md R76, 70_reset_and_hazards.md R195), and COUNTER reads the running block's counter (10_state.md R23). -/
abbrev LatchOk (s : State) : Prop := s.busy = true → s.s0 = latchedInputs s

/-- While BUSY, X is S0 after the RND rounds performed (10_state.md R41, 41_block_function.md R143). -/
abbrev RoundsOk (s : State) : Prop := s.busy = true → s.x = roundTimes s.rnd.toNat s.s0

/-- When DONE is 1, OUT is the block of the inputs latched by the last accepted START (10_state.md R34). -/
abbrev ResultOk (s : State) : Prop :=
  s.done = true → s.out = blockWords Config.sigma (keyWords s.s0) s.s0[12] (nonceWords s.s0)

/-- The invariant every step keeps. -/
abbrev Inv (s : State) : Prop := PhaseOk s ∧ ErrorOk s ∧ DoneOk s ∧ LatchOk s ∧ RoundsOk s ∧ ResultOk s

/-- The state after a rejected access, field by field (60_exceptions.md R162, R163): the response (0, 1), ERR set, and
the code, address and direction of this access where ERR was 0, of the first one where it was 1. -/
def rejected (code : BitVec 3) (addr : BitVec 8) (we : Bool) (s : State) : State :=
  { s with
    rdata := 0#32, errOut := true, err := true
    ecode := if s.err then s.ecode else code
    eaddr := if s.err then s.eaddr else addr
    ewe := if s.err then s.ewe else we }

/-- Whose turn it is in a state (log 1). -/
def nextTurn (s : State) : Turn :=
  match s.turns with
  | t :: _ => t
  | [] => defaultTurn s

/-- `n` steps of the machine, stopping at the first fault or refusal. -/
def runSteps (n : Nat) (s : State) : Host.Outcome State Fault Refusal := Host.Core.run Sys2Proof.core n s

/-- The four quarter-rounds of a column round, as index groups (41_block_function.md R133). -/
def columnGroups : List (Fin 16 × Fin 16 × Fin 16 × Fin 16) :=
  [(0, 4, 8, 12), (1, 5, 9, 13), (2, 6, 10, 14), (3, 7, 11, 15)]

/-- The four quarter-rounds of a diagonal round, as index groups (41_block_function.md R134). -/
def diagonalGroups : List (Fin 16 × Fin 16 × Fin 16 × Fin 16) :=
  [(0, 5, 10, 15), (1, 6, 11, 12), (2, 7, 8, 13), (3, 4, 9, 14)]

/-- Quarter-rounds on index groups, in the list's order. -/
def qrAll (groups : List (Fin 16 × Fin 16 × Fin 16 × Fin 16)) (x : Words16) : Words16 :=
  groups.foldl (fun y g => qr g.1 g.2.1 g.2.2.1 g.2.2.2 y) x

/-- What a host can see of KSG: the words its reads return and the ports (40_host_commands.md; KEY, S0, X, PHASE and RND
have no read path: 10_state.md R20, R43). -/
structure Visible where
  ctrl : Word
  status : Word
  errinfo : Word
  counter : Word
  nonce : Vector Word 3
  out : Vector Word 16
  irq : Bool
  rdata : Word
  errOut : Bool
deriving DecidableEq, Repr

def visible (s : State) : Visible where
  ctrl := ctrlWord s
  status := statusWord s
  errinfo := errinfoWord s
  counter := s.counter
  nonce := s.nonce
  out := s.out
  irq := irq s
  rdata := s.rdata
  errOut := s.errOut

end Sys2Proof.Machine
end

