-- ==== Sys2Proof/Certificates/Slice0/Obligations.lean ====
section
/-! DEFINITION. The statements for the provers. Most are an equation of whole states: what an instruction writes, and
that every other field, the response ports' and the other agent's among them, is as before. -/

open Sys2Proof Sys2Proof.Machine

/-! ## Decoding and stepping -/

/-- A step runs the decoded instruction: the host's access at the head of its program, the engine's step selected by
PHASE and RND, one read of a POLL, and the default turn (logs 1, 13). -/
def Obligations.StepRunsTheDecodedInstruction : Prop :=
  (∀ (s : State) (ts : List Turn) (cmd : BitVec 9) (w : Word) (rest : List HostOp) (i : Instr),
    s.turns = .host :: ts → s.host = .access cmd w :: rest → decode (.ha cmd w) = .ok i →
    step s = exec i { s with turns := ts, host := rest }) ∧
  (∀ (s : State) (ts : List Turn) (i : Instr),
    s.turns = .engine :: ts → decode (.seq (s.phase ++ s.rnd)) = .ok i → step s = exec i { s with turns := ts }) ∧
  (∀ (s : State) (ts : List Turn) (addr : BitVec 8) (mask value : Word) (rest : List HostOp) (i : Instr) (t : State),
    s.turns = .host :: ts → s.host = .poll addr mask value :: rest → decode (.ha (0#1 ++ addr) 0#32) = .ok i →
    exec i { s with turns := ts } = .next t →
    step s = .next (if t.rdata &&& mask = value then { t with host := rest } else t)) ∧
  (∀ s : State, s.turns = [] →
    step s = step { s with turns := [if s.phase = 0b00#2 then Turn.host else Turn.engine] })

/-- Words written out from the encodings of 30_encoding.md R88 and R84, one for each family. How a number is laid out as
a packet is the model's choice, not the spec's (log 11): 16 bits are a host access with the command lowest and the
write's data above it, here 0, and at most 8 bits are a value of SEQ. -/
def Obligations.TableWordsDecode : Prop :=
  decodeTableWord 16 0b000000000 = some .rdId ∧
  decodeTableWord 16 0b100000100 = some (.wrCtrl 0#32) ∧
  decodeTableWord 16 0b100111100 = some (.wrKey 7 0#32) ∧
  decodeTableWord 16 0b001001000 = some (.rdOut 2) ∧
  decodeTableWord 16 0b110000001 = some (.accMisaligned01 (.wr 0#32) 0b100000#6) ∧
  decodeTableWord 16 0b010000000 = some (.accUnmapped .rd 0#5) ∧
  decodeTableWord 8 0b0100000 = some (.seqCol 0#4) ∧
  decodeTableWord 8 0b0110011 = some (.seqDiag 9#4) ∧
  decodeTableWord 8 0b1010100 = some (.seqFinal 20#5)

/-- The rows of the table partition the 512 commands. -/
def Obligations.EveryCommandSelectsExactlyOneRow : Prop :=
  ∀ cmd : BitVec 9, (haRows.filter (·.selects cmd)).length = 1

/-- Decode and encode agree on every well-formed instruction, every operand at every value. -/
def Obligations.DecodeOfEncodeIsTheInstruction : Prop :=
  ∀ i : Instr, i.wf = true → decode (encode i) = .ok i

/-- Encode and decode agree on every packet: no bit of a command, of a sequencer state or of a write's data is
dropped; a read carries no data (log 16). -/
def Obligations.EncodeOfDecodeIsThePacket : Prop :=
  (∀ (cmd : BitVec 9) (w : Word), ∃ i, decode (.ha cmd w) = .ok i ∧
    encode i = .ha cmd (if cmd.getLsbD 8 then w else 0#32)) ∧
  (∀ (v : BitVec 7) (i : Instr), decode (.seq v) = .ok i → encode i = .seq v)

/-! ## Rejected accesses -/

/-- R68: a misaligned access, read or write, is rejected as MISALIGNED and changes nothing but the record. -/
def Obligations.MisalignedAccessIsRejected : Prop :=
  (∀ (we : Bool) (addr : BitVec 8) (w : Word) (s : State), addr.extractLsb' 0 2 ≠ 0#2 →
    access we addr w s = .next (rejected 1#3 addr we s)) ∧
  (∀ (dir : Dir) (slot : BitVec 6) (s : State),
    exec (.accMisaligned01 dir slot) s = .next (rejected 1#3 (slot ++ 0b01#2) (isWrite dir) s) ∧
    exec (.accMisaligned10 dir slot) s = .next (rejected 1#3 (slot ++ 0b10#2) (isWrite dir) s) ∧
    exec (.accMisaligned11 dir slot) s = .next (rejected 1#3 (slot ++ 0b11#2) (isWrite dir) s))

/-- Slots 32 to 63 (R71, code 2 of R160). -/
def Obligations.UnmappedAccessIsRejected : Prop :=
  (∀ (we : Bool) (addr : BitVec 8) (w : Word) (s : State), addr.extractLsb' 0 2 = 0#2 → 0x80 ≤ addr.toNat →
    access we addr w s = .next (rejected 2#3 addr we s)) ∧
  (∀ (dir : Dir) (low : BitVec 5) (s : State),
    exec (.accUnmapped dir low) s = .next (rejected 2#3 (0b1#1 ++ low ++ 0b00#2) (isWrite dir) s))

/-- Writes of slots 0, 3 and 16 to 31 (code 3 of R160). -/
def Obligations.ReadOnlyWriteIsRejected : Prop :=
  (∀ (w : Word) (s : State), decode (.ha 0x100#9 w) = .ok (.wrId w) ∧
    exec (.wrId w) s = .next (rejected 3#3 0x00#8 true s)) ∧
  (∀ (w : Word) (s : State), decode (.ha 0x10C#9 w) = .ok (.wrErrinfo w) ∧
    exec (.wrErrinfo w) s = .next (rejected 3#3 0x0C#8 true s)) ∧
  (∀ (k : Fin 16) (w : Word) (s : State),
    decode (.ha (0b101#3 ++ BitVec.ofNat 4 k.val ++ 0b00#2) w) = .ok (.wrOut k w) ∧
    exec (.wrOut k w) s = .next (rejected 3#3 (0b01#2 ++ BitVec.ofNat 4 k.val ++ 0b00#2) true s))

/-- R163: the first error is kept. -/
def Obligations.FirstErrorIsKept : Prop :=
  ∀ (c : Cause) (addr : BitVec 8) (we : Bool) (s : State),
    (s.err = false →
      recordError c addr we s = { s with err := true, ecode := causeCode c, eaddr := addr, ewe := we }) ∧
    (s.err = true → recordError c addr we s = s)

/-- R100 and R162: the checks, in order, decide whether an access is rejected and with which cause; a rejected access
changes nothing but the record; an access that passes performs its command and answers err = 0. -/
def Obligations.AccessChecksDecide : Prop :=
  ∀ (we : Bool) (addr : BitVec 8) (w : Word) (s : State),
    (∀ c, accessCause we addr w s.busy = some c →
      access we addr w s = .next (rejected (causeCode c) addr we s)) ∧
    (accessCause we addr w s.busy = none →
      ∃ i t, decode (.ha (BitVec.ofBool we ++ addr) w) = .ok i ∧ access we addr w s = exec i s ∧
        exec i s = .next t ∧ t.errOut = false ∧ (we = true → t.rdata = 0#32))

/-- An accepted read changes nothing but the response, and read again it answers the same (20_memory.md R70). -/
def Obligations.AcceptedReadHasNoSideEffect : Prop :=
  ∀ (addr : BitVec 8) (s : State), accessCause false addr 0#32 s.busy = none →
    ∃ v : Word, access false addr 0#32 s = .next { s with rdata := v, errOut := false } ∧
      access false addr 0#32 { s with rdata := v, errOut := false } = .next { s with rdata := v, errOut := false }

/-! ## Reads -/

/-- R101. -/
def Obligations.RdIdReturnsTheConstant : Prop :=
  ∀ (w : Word) (s : State), decode (.ha 0x000#9 w) = .ok .rdId ∧
    exec .rdId s = .next { s with rdata := 0x4B534731#32, errOut := false }

/-- R102, with its example. -/
def Obligations.RdCtrlReturnsTheEnables : Prop :=
  (∀ (w : Word) (s : State), decode (.ha 0x004#9 w) = .ok .rdCtrl ∧
    ∃ v : Word, exec .rdCtrl s = .next { s with rdata := v, errOut := false } ∧
      v.getLsbD 0 = false ∧ v.getLsbD 1 = s.doneIe ∧ v.getLsbD 2 = s.errIe ∧
      (∀ n, 3 ≤ n → v.getLsbD n = false)) ∧
  (∀ s : State, ∃ a, exec (.wrCtrl 0xFFFFFFFE#32) s = .next a ∧
    exec .rdCtrl a = .next { a with rdata := 0x00000006#32, errOut := false })

/-- R104: the word of STATUS bit by bit, the read in a completion's cycle, and the example. -/
def Obligations.RdStatusReturnsTheFlags : Prop :=
  (∀ (w : Word) (s : State), decode (.ha 0x008#9 w) = .ok .rdStatus ∧
    ∃ v : Word, exec .rdStatus s = .next { s with rdata := v, errOut := false } ∧
      v.getLsbD 0 = s.busy ∧ v.getLsbD 1 = s.done ∧ v.getLsbD 2 = s.err ∧ v.getLsbD 3 = false ∧
      v.extractLsb' 4 3 = s.ecode ∧ v.getLsbD 7 = irq s ∧ (∀ n, 8 ≤ n → v.getLsbD n = false) ∧
      (∀ (ts : List Turn) (rest : List HostOp),
        s.host = .access 0x008#9 w :: rest → s.turns = edgeTurns true true [.complete] ++ ts →
        ∃ t, runSteps 2 s = .next t ∧ t.rdata = v)) ∧
  (∀ s : State, s.doneIe = true → s.err = false → s.ecode = 0#3 →
    exec .rdStatus (complete s) = .next { complete s with rdata := 0x00000082#32, errOut := false })

/-- R106: EADDR and EWE, zero whenever ERR is 0, and the example. -/
def Obligations.RdErrinfoReturnsTheRecord : Prop :=
  (∀ (w : Word) (s : State), decode (.ha 0x00C#9 w) = .ok .rdErrinfo ∧
    ∃ v : Word, exec .rdErrinfo s = .next { s with rdata := v, errOut := false } ∧
      v.extractLsb' 0 8 = s.eaddr ∧ v.getLsbD 8 = s.ewe ∧ (∀ n, 9 ≤ n → v.getLsbD n = false) ∧
      (ErrorOk s → s.err = false → v = 0#32)) ∧
  (∀ s : State, s.err = false → ∃ a, access true 0x81#8 5#32 s = .next a ∧
    exec .rdErrinfo a = .next { a with rdata := 0x00000181#32, errOut := false })

/-- R107: COUNTER, which is the running block's counter while BUSY and that plus 1 after its completion. -/
def Obligations.RdCounterReturnsTheCounter : Prop :=
  (∀ (w : Word) (s : State), decode (.ha 0x010#9 w) = .ok .rdCounter ∧
    exec .rdCounter s = .next { s with rdata := s.counter, errOut := false } ∧
    (Inv s → s.busy = true → s.counter = s.s0[12] ∧
      exec .rdCounter (complete s) = .next { complete s with rdata := s.counter + 1#32, errOut := false })) ∧
  exec .rdCounter State.reset = .next { State.reset with rdata := 0x00000001#32, errOut := false }

/-- R109, with its example. -/
def Obligations.RdNonceReturnsTheWord : Prop :=
  (∀ (w : Word) (s : State),
    decode (.ha 0x014#9 w) = .ok .rdNonce0 ∧ decode (.ha 0x018#9 w) = .ok .rdNonce1 ∧
    decode (.ha 0x01C#9 w) = .ok .rdNonce2 ∧
    exec .rdNonce0 s = .next { s with rdata := s.nonce[0], errOut := false } ∧
    exec .rdNonce1 s = .next { s with rdata := s.nonce[1], errOut := false } ∧
    exec .rdNonce2 s = .next { s with rdata := s.nonce[2], errOut := false }) ∧
  (∀ s : State, s.busy = false → ∃ a, exec (.wrNonce1 0x4A000000#32) s = .next a ∧
    exec .rdNonce1 a = .next { a with rdata := 0x4A000000#32, errOut := false })

/-- R111: the key reads 0, whatever was written, and the read is accepted. -/
def Obligations.RdKeyReturnsZero : Prop :=
  (∀ (cmd : BitVec 9) (w : Word), cmd &&& 0x1E3#9 = 0x020#9 →
    ∃ i : Fin 8, i.val = (cmd.extractLsb' 2 3).toNat ∧ decode (.ha cmd w) = .ok (.rdKey i)) ∧
  (∀ (i : Fin 8) (s : State), exec (.rdKey i) s = .next { s with rdata := 0x00000000#32, errOut := false })

/-- R113: word k of OUT, also while BUSY. -/
def Obligations.RdOutReturnsTheLastBlock : Prop :=
  (∀ (cmd : BitVec 9) (w : Word), cmd &&& 0x1C3#9 = 0x040#9 →
    ∃ k : Fin 16, k.val = (cmd.extractLsb' 2 4).toNat ∧ decode (.ha cmd w) = .ok (.rdOut k)) ∧
  (∀ (k : Fin 16) (s : State), exec (.rdOut k) s = .next { s with rdata := s.out[k], errOut := false })

/-! ## Writes -/

/-- R103 and R141: the enables are rewritten by every accepted write; an accepted START latches the inputs and starts
the block in the same access; a START while BUSY is rejected and changes neither enable. -/
def Obligations.WrCtrlWritesEnablesAndStarts : Prop :=
  ∀ (w : Word) (s : State), decode (.ha 0x104#9 w) = .ok (.wrCtrl w) ∧
    (w.getLsbD 0 = false →
      exec (.wrCtrl w) s =
        .next { s with doneIe := w.getLsbD 1, errIe := w.getLsbD 2, rdata := 0#32, errOut := false }) ∧
    (w.getLsbD 0 = true → s.busy = false →
      exec (.wrCtrl w) s =
        .next { s with
          doneIe := w.getLsbD 1, errIe := w.getLsbD 2
          s0 := initState Config.sigma s.key s.counter s.nonce
          x := initState Config.sigma s.key s.counter s.nonce
          busy := true, done := false, phase := 0b01#2, rnd := 0#5, rdata := 0#32, errOut := false }) ∧
    (w.getLsbD 0 = true → s.busy = true → exec (.wrCtrl w) s = .next (rejected 5#3 0x04#8 true s))

/-- R105: write 1 to clear; every other bit of the data is ignored; accepted in every state. -/
def Obligations.WrStatusClearsWhatItNames : Prop :=
  ∀ (w : Word) (s : State), decode (.ha 0x108#9 w) = .ok (.wrStatus w) ∧
    exec (.wrStatus w) s =
      .next { s with
        done := if w.getLsbD 1 then false else s.done
        err := if w.getLsbD 2 then false else s.err
        ecode := if w.getLsbD 2 then 0#3 else s.ecode
        eaddr := if w.getLsbD 2 then 0#8 else s.eaddr
        ewe := if w.getLsbD 2 then false else s.ewe
        rdata := 0#32, errOut := false }

/-- R108, with its example. -/
def Obligations.WrCounterSetsTheCounter : Prop :=
  (∀ (w : Word) (s : State), decode (.ha 0x110#9 w) = .ok (.wrCounter w) ∧
    (s.busy = false → exec (.wrCounter w) s = .next { s with counter := w, rdata := 0#32, errOut := false }) ∧
    (s.busy = true → exec (.wrCounter w) s = .next (rejected 4#3 0x10#8 true s))) ∧
  (∀ s : State, s.busy = false → ∃ a b, exec (.wrCounter 0xFFFFFFFF#32) s = .next a ∧
    exec (.wrCtrl 0x00000001#32) a = .next b ∧ (complete b).counter = 0x00000000#32)

/-- R110: the three words are independent. -/
def Obligations.WrNonceSetsTheWord : Prop :=
  ∀ (w : Word) (s : State),
    decode (.ha 0x114#9 w) = .ok (.wrNonce0 w) ∧ decode (.ha 0x118#9 w) = .ok (.wrNonce1 w) ∧
    decode (.ha 0x11C#9 w) = .ok (.wrNonce2 w) ∧
    (s.busy = false →
      exec (.wrNonce0 w) s =
        .next { s with nonce := #v[w, s.nonce[1], s.nonce[2]], rdata := 0#32, errOut := false } ∧
      exec (.wrNonce1 w) s =
        .next { s with nonce := #v[s.nonce[0], w, s.nonce[2]], rdata := 0#32, errOut := false } ∧
      exec (.wrNonce2 w) s =
        .next { s with nonce := #v[s.nonce[0], s.nonce[1], w], rdata := 0#32, errOut := false }) ∧
    (s.busy = true →
      exec (.wrNonce0 w) s = .next (rejected 4#3 0x14#8 true s) ∧
      exec (.wrNonce1 w) s = .next (rejected 4#3 0x18#8 true s) ∧
      exec (.wrNonce2 w) s = .next (rejected 4#3 0x1C#8 true s))

/-- R112: key word i, and no other. -/
def Obligations.WrKeySetsTheWord : Prop :=
  (∀ (cmd : BitVec 9) (w : Word), cmd &&& 0x1E3#9 = 0x120#9 →
    ∃ i : Fin 8, i.val = (cmd.extractLsb' 2 3).toNat ∧ decode (.ha cmd w) = .ok (.wrKey i w)) ∧
  (∀ (i : Fin 8) (w : Word) (s : State),
    (s.busy = false → ∃ k : Vector Word 8, (∀ j : Fin 8, k[j] = if j = i then w else s.key[j]) ∧
      exec (.wrKey i w) s = .next { s with key := k, rdata := 0#32, errOut := false }) ∧
    (s.busy = true →
      exec (.wrKey i w) s = .next (rejected 4#3 (0b001#3 ++ BitVec.ofNat 3 i.val ++ 0b00#2) true s)))

/-! ## The sequencer and the completion -/

/-- R144, with where RND then stands. -/
def Obligations.SeqColPerformsAColumnRound : Prop :=
  ∀ (r : BitVec 4) (s : State), decode (.seq (0b01#2 ++ r ++ 0b0#1)) = .ok (.seqCol r) ∧
    exec (.seqCol r) s = .next { s with x := columnRound s.x, rnd := s.rnd + 1#5 } ∧
    (PhaseOk s → s.phase = 0b01#2 → s.rnd.toNat % 2 = 0 →
      s.rnd.toNat ≤ 18 ∧ (s.rnd + 1#5).toNat % 2 = 1 ∧ (s.rnd + 1#5).toNat ≤ 19)

/-- R145: at RND = 19 the step moves the sequencer to FINAL, else PHASE stays. -/
def Obligations.SeqDiagPerformsADiagonalRound : Prop :=
  ∀ (r : BitVec 4) (s : State), decode (.seq (0b01#2 ++ r ++ 0b1#1)) = .ok (.seqDiag r) ∧
    (s.rnd = 19#5 →
      exec (.seqDiag r) s = .next { s with x := diagonalRound s.x, rnd := 20#5, phase := 0b10#2 }) ∧
    (s.rnd ≠ 19#5 → exec (.seqDiag r) s = .next { s with x := diagonalRound s.x, rnd := s.rnd + 1#5 })

/-- R146: feed-forward, counter and flags in one step. That X, S0 and RND stand after it, which the equation of whole
states also says, is the model's reading, since R146 does not list them (log 17). -/
def Obligations.SeqFinalPublishesTheBlock : Prop :=
  ∀ (r : BitVec 5) (s : State), decode (.seq (0b10#2 ++ r)) = .ok (.seqFinal r) ∧
    ∃ y : Vector Word 16, (∀ k : Fin 16, y[k] = s.x[k] + s.s0[k]) ∧
      exec (.seqFinal r) s =
        .next { s with out := y, counter := s.s0[12] + 1#32, busy := false, done := true, phase := 0b00#2 }

/-- R142: `Complete()` is enabled exactly when BUSY = 1, and then publishes the block of S0. The model's choices: the turn
in which it is not enabled only passes (log 8), and X, S0 and RND stand after a completion, since R142 does not list
them (log 17). -/
def Obligations.CompletePublishesTheBlock : Prop :=
  ∀ (s : State) (ts : List Turn), s.turns = .complete :: ts →
    (s.busy = true →
      step s = .next { s with
        turns := ts
        out := blockWords Config.sigma (keyWords s.s0) s.s0[12] (nonceWords s.s0)
        counter := s.s0[12] + 1#32, busy := false, done := true, phase := 0b00#2 }) ∧
    (s.busy = false → step s = .next { s with turns := ts })

/-- SEQ_FINAL's effects are those of `Complete()`, in every state of the invariant that it runs in (R146, R143). -/
def Obligations.SeqFinalIsComplete : Prop :=
  ∀ (s : State) (r : BitVec 5), Inv s → s.phase = 0b10#2 → exec (.seqFinal r) s = .next (complete s)

/-- The 21 steps of the reference sequencer compute `Complete()` (R143): the same OUT, COUNTER and flags, every other
field alike but for the internal X and RND. That X is then the state after 20 rounds and RND 20, as SEQ_FINAL leaves
them, and that S0 stands, is the model's reading (log 17). -/
def Obligations.SequencerComputesComplete : Prop :=
  ∀ (s : State) (ts : List Turn),
    s.phase = 0b01#2 → s.rnd = 0#5 → s.x = s.s0 →
    s.s0[0] = Config.sigma[0] → s.s0[1] = Config.sigma[1] → s.s0[2] = Config.sigma[2] → s.s0[3] = Config.sigma[3] →
    runSteps 21 { s with turns := List.replicate 21 Turn.engine ++ ts } =
      .next { complete s with turns := ts, x := roundTimes 20 s.s0, rnd := 20#5 }

/-- An accepted START completes whatever the latency and whatever the host does meanwhile, short of a reset (R201, R202).
The first clause: after the edges of the latency, with an access in those the host chooses, the block of the latched
inputs is published. The second: from the START on, engine turns with host turns anywhere among them keep BUSY at 1 and
stop nowhere, until the completion, which is the 21st engine turn or a completion turn in place of what is left of the
21, publishes the block of the inputs that stood at the START.
That the completion's turn is there is the model's choice of schedule, not something the machine brings about: in the
first clause `latencyTurns` places it, in the second the hypothesis on the last turn does (logs 1, 7). It stands for
the weak fairness that R201 tells such a model to assume. -/
def Obligations.StartCompletesForEveryLatency : Prop :=
  (∀ (reqs : List Bool) (s : State) (ts : List Turn), reqs ≠ [] → s.busy = true →
    ∃ t, runSteps (latencyTurns reqs).length { s with turns := latencyTurns reqs ++ ts } = .next t ∧
      t.busy = false ∧ t.done = true ∧ t.phase = 0b00#2 ∧ t.turns = ts ∧
      t.out = blockWords Config.sigma (keyWords s.s0) s.s0[12] (nonceWords s.s0) ∧ t.counter = s.s0[12] + 1#32) ∧
  (∀ (w : Word) (s : State), w.getLsbD 0 = true → s.busy = false →
    ∃ a, exec (.wrCtrl w) s = .next a ∧
      ∀ (sched ts : List Turn) (last : Turn),
        (∀ u ∈ sched, u = .host ∨ u = .engine) →
        (last = .engine ∧ sched.count .engine = 20) ∨ (last = .complete ∧ sched.count .engine ≤ 20) →
        (∀ k, k ≤ sched.length →
          ∃ u, runSteps k { a with turns := sched ++ last :: ts } = .next u ∧ u.busy = true ∧ u.done = false) ∧
        ∃ t, runSteps (sched.length + 1) { a with turns := sched ++ last :: ts } = .next t ∧
          t.busy = false ∧ t.done = true ∧ t.phase = 0b00#2 ∧ t.turns = ts ∧
          t.out = blockWords Config.sigma s.key s.counter s.nonce ∧ t.counter = s.counter + 1#32)

/-- With no turns given the engine goes on by itself and completes within 21 steps (R201). The model's choices: the
default turn (log 1), and that X and RND stand after the completion as the 20 rounds left them (log 17). -/
def Obligations.DefaultTurnsReachTheCompletion : Prop :=
  ∀ s : State, Inv s → s.busy = true → s.turns = [] →
    ∃ n, n ≤ 21 ∧ runSteps n s = .next { complete s with x := roundTimes 20 s.s0, rnd := 20#5 }

/-- The engine with PHASE = IDLE takes no step; with PHASE = 11 the model faults (R84, I3; logs 8, 9). -/
def Obligations.EngineWaitsWhenIdleAndFaultsWhenUnused : Prop :=
  ∀ (s : State) (ts : List Turn), s.turns = .engine :: ts →
    (s.phase = 0b00#2 → step s = .next { s with turns := ts }) ∧
    (s.phase = 0b11#2 → step s = .fault .phaseUnused)

/-! ## Reset -/

/-- R191: what an edge with rst_n = 0 leaves, a block in progress or not; S0, X and RND are whatever they are. -/
def Obligations.ResetLeavesTheSpecValues : Prop :=
  ∀ (s : State) (ts : List Turn), s.turns = .reset false :: ts →
    ∃ t, step s = .next t ∧
      (∀ i : Fin 8, t.key[i] = 0#32) ∧ (∀ j : Fin 3, t.nonce[j] = 0#32) ∧ t.counter = 0x00000001#32 ∧
      (∀ k : Fin 16, t.out[k] = 0#32) ∧ t.doneIe = false ∧ t.errIe = false ∧ t.busy = false ∧ t.done = false ∧
      t.err = false ∧ t.ecode = 0#3 ∧ errinfoWord t = 0#32 ∧ t.phase = 0b00#2 ∧ irq t = false ∧
      statusWord t = 0#32

/-- What an edge with rst_n = 0 leaves alone, by the model's choice: the last response on the ports (log 5), the host's
program and the turns still to come (logs 1, 2). -/
def Obligations.ResetKeepsTheResponseAndTheHost : Prop :=
  ∀ (s : State) (ts : List Turn), s.turns = .reset false :: ts →
    ∃ t, step s = .next t ∧ t.rdata = s.rdata ∧ t.errOut = s.errOut ∧ t.host = s.host ∧ t.turns = ts

/-- R192: an access while rst_n = 0 is refused. -/
def Obligations.AccessDuringResetIsRefused : Prop :=
  ∀ (s : State) (ts : List Turn), s.turns = .reset true :: ts → step s = .refused .accessDuringReset

/-- The state after reset meets the invariant. -/
def Obligations.ResetStateMeetsTheInvariant : Prop := Inv State.reset

/-! ## The whole machine -/

/-- Every step of every agent keeps the invariant. -/
def Obligations.EveryStepKeepsTheInvariant : Prop :=
  ∀ s t : State, Inv s → step s = .next t → Inv t

/-- R195: while BUSY, writes to the inputs and a further START are rejected and change nothing, and no access of the host
changes an input, the latched inputs, the computation or OUT. -/
def Obligations.BusyProtectsTheBlock : Prop :=
  ∀ s : State, s.busy = true →
    (∀ (addr : BitVec 8) (w : Word), addr.extractLsb' 0 2 = 0#2 → 0x10 ≤ addr.toNat → addr.toNat ≤ 0x3C →
      access true addr w s = .next (rejected 4#3 addr true s)) ∧
    (∀ w : Word, w.getLsbD 0 = true → access true 0x04#8 w s = .next (rejected 5#3 0x04#8 true s)) ∧
    (∃ t, hostMove s = .next t ∧ t.key = s.key ∧ t.nonce = s.nonce ∧ t.counter = s.counter ∧ t.out = s.out ∧
      t.s0 = s.s0 ∧ t.x = s.x ∧ t.phase = s.phase ∧ t.rnd = s.rnd ∧ t.busy = true)

/-- OUT is updated only by a completion, besides reset (R24, R196). -/
def Obligations.OnlyACompletionChangesOut : Prop :=
  ∀ s t : State, step s = .next t → t.out ≠ s.out →
    (nextTurn s = .complete ∧ s.busy = true ∧ t.done = true) ∨
    (nextTurn s = .engine ∧ s.phase = 0b10#2 ∧ t.done = true) ∨ nextTurn s = .reset false

/-- R33: BUSY rises only by an accepted START, and falls only by a completion or reset. -/
def Obligations.OnlyStartAndCompletionChangeBusy : Prop :=
  ∀ s t : State, step s = .next t →
    (s.busy = false → t.busy = true →
      nextTurn s = .host ∧ ∃ w rest, s.host = .access 0x104#9 w :: rest ∧ w.getLsbD 0 = true ∧ t.errOut = false) ∧
    (s.busy = true → t.busy = false →
      nextTurn s = .complete ∨ (nextTurn s = .engine ∧ s.phase = 0b10#2) ∨ nextTurn s = .reset false)

/-- R35: ERR rises only by a rejected access, and falls only by WR_STATUS with `wdata[2]` = 1 or reset. -/
def Obligations.ErrIsSticky : Prop :=
  ∀ s t : State, step s = .next t →
    (s.err = false → t.err = true → nextTurn s = .host ∧ t.errOut = true) ∧
    (s.err = true → t.err = false →
      nextTurn s = .reset false ∨
      (nextTurn s = .host ∧ ∃ w rest, s.host = .access 0x108#9 w :: rest ∧ w.getLsbD 2 = true))

/-- No access of the host tells one key from another: from two states that differ only in KEY, S0 and X, its next move
gives two states that again differ only there (R111, R20). -/
def Obligations.HostMoveDoesNotRevealTheKey : Prop :=
  ∀ (s : State) (k : Vector Word 8) (a b : Vector Word 16),
    ∃ (t : State) (k' : Vector Word 8) (a' b' : Vector Word 16), hostMove s = .next t ∧
      hostMove { s with key := k, s0 := a, x := b } = .next { t with key := k', s0 := a', x := b' } ∧
      visible { t with key := k', s0 := a', x := b' } = visible t

/-! ## The interrupt -/

/-- R42. -/
def Obligations.IrqIsTheEnabledPendingBits : Prop :=
  (∀ s : State, irq s = true ↔ (s.done = true ∧ s.doneIe = true) ∨ (s.err = true ∧ s.errIe = true)) ∧
  irq State.reset = false

/-- R167: a START with the completion interrupt enabled, whatever the other bits of its word; the completion, irq, a read
of OUT, the acknowledgement, after which irq is 0 unless the error source asserts it; a START also clears DONE and so
lowers the completion source. -/
def Obligations.CompletionInterruptLifecycle : Prop :=
  ∀ (w : Word) (s : State), w.getLsbD 0 = true → w.getLsbD 1 = true → s.busy = false →
    ∃ a, exec (.wrCtrl w) s = .next a ∧ a.done = false ∧ irq a = (s.err && w.getLsbD 2) ∧
      (complete a).done = true ∧ irq (complete a) = true ∧
      (∀ k : Fin 16, ∃ r b, exec (.rdOut k) (complete a) = .next r ∧
        r.rdata = (blockWords Config.sigma s.key s.counter s.nonce)[k] ∧ irq r = true ∧
        exec (.wrStatus 0x00000002#32) r = .next b ∧ b.done = false ∧ irq b = (s.err && w.getLsbD 2)) ∧
      (∀ v : Word, v.getLsbD 0 = true →
        ∃ c, exec (.wrCtrl v) (complete a) = .next c ∧ c.done = false ∧ irq c = (s.err && v.getLsbD 2))

/-- R168: the first rejected access with ERR_IE = 1 raises irq; CLRERR lowers the error source. -/
def Obligations.ErrorInterruptLifecycle : Prop :=
  ∀ (s : State) (we : Bool) (addr : BitVec 8) (w : Word) (c : Cause),
    s.errIe = true → s.err = false → accessCause we addr w s.busy = some c →
    ∃ a b, access we addr w s = .next a ∧ a.err = true ∧ irq a = true ∧ a.ecode = causeCode c ∧ a.eaddr = addr ∧
      a.ewe = we ∧ exec (.wrStatus 0x00000004#32) a = .next b ∧ b.err = false ∧ b.ecode = 0#3 ∧ b.eaddr = 0#8 ∧
      b.ewe = false ∧ irq b = (b.done && b.doneIe)

/-- R169: in one clock edge the access comes first, then the completion: a clearing of DONE does not lose the new
completion, a START is still rejected, and a rejected access sets ERR beside the new DONE. -/
def Obligations.SameEdgeOrder : Prop :=
  ∀ (s : State) (ts : List Turn) (cmd : BitVec 9) (w : Word) (rest : List HostOp),
    s.busy = true → s.host = .access cmd w :: rest → s.turns = edgeTurns true true [.complete] ++ ts →
    ∃ t, runSteps 2 s = .next t ∧ t.done = true ∧ t.busy = false ∧ t.turns = ts ∧ t.host = rest ∧
      (cmd = 0x108#9 → t.errOut = false) ∧
      (cmd = 0x104#9 → w.getLsbD 0 = true → t.errOut = true ∧ t.err = true) ∧
      (accessCause (cmd.getLsbD 8) (cmd.extractLsb' 0 8) w true ≠ none → t.errOut = true ∧ t.err = true)

/-! ## The block function -/

/-- le32 and bytes_le32 are inverse, the first byte least significant (R11). -/
def Obligations.Le32IsLittleEndian : Prop :=
  (∀ b0 b1 b2 b3 : Byte, (le32 b0 b1 b2 b3).toNat =
      b0.toNat + 256 * b1.toNat + 65536 * b2.toNat + 16777216 * b3.toNat ∧
    bytesLe32 (le32 b0 b1 b2 b3) = [b0, b1, b2, b3]) ∧
  (∀ w : Word, ∃ b0 b1 b2 b3, bytesLe32 w = [b0, b1, b2, b3] ∧ le32 b0 b1 b2 b3 = w)

/-- R130: addition modulo 2^32, its laws and its examples. -/
def Obligations.Add32WrapsWithoutFlags : Prop :=
  (∀ x y : Word, (add32 x y).toNat = (x.toNat + y.toNat) % 2 ^ 32 ∧ add32 x y = add32 y x ∧ add32 x 0#32 = x) ∧
  (∀ x y z : Word, add32 (add32 x y) z = add32 x (add32 y z)) ∧
  (∀ y : Word, Function.Bijective fun x => add32 x y) ∧
  add32 0xFFFFFFFF#32 0x00000001#32 = 0x00000000#32 ∧ add32 0x80000000#32 0x80000001#32 = 0x00000001#32

/-- R131: the rotation moves bit i to bit (i + n) mod 32 and loses none; the laws of xor; the examples. -/
def Obligations.Rotl32MovesEveryBit : Prop :=
  (∀ (x : Word) (n i : Nat), 1 ≤ n → n ≤ 31 → i < 32 →
    (rotl32 x n).getLsbD ((i + n) % 32) = x.getLsbD i) ∧
  (∀ (x : Word) (n : Nat), 1 ≤ n → n ≤ 31 → rotl32 (rotl32 x n) (32 - n) = x) ∧
  (∀ (n : Nat), 1 ≤ n → n ≤ 31 → Function.Bijective fun x : Word => rotl32 x n) ∧
  (∀ h l : BitVec 16, rotl32 (h ++ l) 16 = l ++ h) ∧
  (∀ (x y : Word) (i : Nat), (xor32 x y).getLsbD i = (x.getLsbD i ^^ y.getLsbD i)) ∧
  (∀ x : Word, xor32 x x = 0#32 ∧ xor32 x 0#32 = x) ∧
  rotl32 0x12345678#32 8 = 0x34567812#32 ∧ rotl32 0x80000000#32 7 = 0x00000040#32

/-- R132: the quarter-round on four distinct indices, the value of each word after the four statements, and every other
word as before. -/
def Obligations.QuarterRoundFollowsTheRule : Prop :=
  ∀ (a b c d : Fin 16) (x : Vector Word 16), a ≠ b → a ≠ c → a ≠ d → b ≠ c → b ≠ d → c ≠ d →
    ∃ a1 d1 c1 b1 a2 d2 c2 b2 : Word,
      a1 = x[a] + x[b] ∧ d1 = rotl32 (x[d] ^^^ a1) 16 ∧ c1 = x[c] + d1 ∧ b1 = rotl32 (x[b] ^^^ c1) 12 ∧
      a2 = a1 + b1 ∧ d2 = rotl32 (d1 ^^^ a2) 8 ∧ c2 = c1 + d2 ∧ b2 = rotl32 (b1 ^^^ c2) 7 ∧
      (qr a b c d x)[a] = a2 ∧ (qr a b c d x)[b] = b2 ∧ (qr a b c d x)[c] = c2 ∧ (qr a b c d x)[d] = d2 ∧
      (∀ i : Fin 16, i ≠ a → i ≠ b → i ≠ c → i ≠ d → (qr a b c d x)[i] = x[i])

/-- The quarter-round is a bijection (R132: every step is invertible). -/
def Obligations.QuarterRoundIsInvertible : Prop :=
  ∀ a b c d : Fin 16, a ≠ b → a ≠ c → a ≠ d → b ≠ c → b ≠ d → c ≠ d → Function.Bijective (qr a b c d)

/-- R150: the order of the four quarter-rounds within a round does not change its result, and each index is in exactly
one group of a round. -/
def Obligations.RoundOrderDoesNotMatter : Prop :=
  (∀ (gs : List (Fin 16 × Fin 16 × Fin 16 × Fin 16)) (x : Vector Word 16),
    (gs.Perm columnGroups → qrAll gs x = columnRound x) ∧
    (gs.Perm diagonalGroups → qrAll gs x = diagonalRound x)) ∧
  (∀ i : Fin 16,
    (columnGroups.filter fun g => i ∈ [g.1, g.2.1, g.2.2.1, g.2.2.2]).length = 1 ∧
    (diagonalGroups.filter fun g => i ∈ [g.1, g.2.1, g.2.2.1, g.2.2.2]).length = 1)

/-- R136: the layout of the initial state. -/
def Obligations.InitStateLayout : Prop :=
  ∀ (sigma : Vector Word 4) (k : Vector Word 8) (c : Word) (n : Vector Word 3),
    (∀ i : Fin 4, (initState sigma k c n)[i.val] = sigma[i]) ∧
    (∀ i : Fin 8, (initState sigma k c n)[4 + i.val] = k[i]) ∧
    (initState sigma k c n)[12] = c ∧
    (∀ j : Fin 3, (initState sigma k c n)[13 + j.val] = n[j])

/-- R140, R137, R138: 20 rounds, column and diagonal in turn, from the initial state, which is then added word by
word. -/
def Obligations.BlockIsTwentyRoundsAndFeedForward : Prop :=
  (∀ (n : Nat) (x : Vector Word 16), roundTimes (2 * n) x = doubleRoundTimes n x) ∧
  (∀ (sigma : Vector Word 4) (k : Vector Word 8) (c : Word) (n : Vector Word 3) (i : Fin 16),
    (blockWords sigma k c n)[i] = (roundTimes 20 (initState sigma k c n))[i] + (initState sigma k c n)[i])

/-- Byte 4k + m of a block is `OUT[k][8m+7 : 8m]`, and there are 64 (R65, R139). -/
def Obligations.SerialisationIsLittleEndian : Prop :=
  ∀ y : Vector Word 16, (serialise y).length = 64 ∧
    ∀ (k : Fin 16) (m : Fin 4), (serialise y)[4 * k.val + m.val]? = some (y[k].extractLsb' (8 * m.val) 8)

/-! ## The host's side -/

/-- The words of a key and a nonce are the little-endian words of their bytes (R63, R64). -/
def Obligations.KeyAndNonceWordsAreLittleEndian : Prop :=
  (∀ (key : Vector Byte 32) (i : Fin 8) (m : Fin 4),
    (keyOfBytes key)[i].extractLsb' (8 * m.val) 8 = key[4 * i.val + m.val]) ∧
  (∀ (nonce : Vector Byte 12) (j : Fin 3) (m : Fin 4),
    (nonceOfBytes nonce)[j].extractLsb' (8 * m.val) 8 = nonce[4 * j.val + m.val])

/-- The transform is its own inverse, and keeps the length (R147). -/
def Obligations.TransformIsItsOwnInverse : Prop :=
  ∀ (sigma : Vector Word 4) (m : List Byte) (k : Vector Word 8) (n : Vector Word 3),
    (transform sigma m k n).length = m.length ∧ transform sigma (transform sigma m k n) k n = m

/-- Key normalisation: `key[i] = p[i mod n]` for i in 0..31 (R148, for a non-empty passphrase). R148 does not apply to an
empty passphrase; that the function refuses it is the model's choice (log 15), the treatment of
93_implementation_defined.md I1. -/
def Obligations.NormKeyRepeatsThePassphrase : Prop :=
  normKey [] = none ∧
  ∀ p : List Byte, p ≠ [] →
    ∃ key, normKey p = some key ∧ key.length = 32 ∧ ∀ i, i < 32 → key[i]? = p[i % p.length]?

/-- Instances share no state (R173, I11): a step of one is that instance's own step and leaves every other as it is; a
stop of one is its own; after any order of steps each instance stands where its own steps alone take it; `ID` reads the
same in every instance. INSTANCES is the length of the list, and that the instances are a list stepped one at a time is
the model's choice (log 14). -/
def Obligations.InstancesShareNoState : Prop :=
  (∀ (n : Nat) (p : List State) (s t : State), p[n]? = some s → step s = .next t →
    ∃ q, platformStep n p = .next q ∧ q.length = p.length ∧ q[n]? = some t ∧ ∀ m, m ≠ n → q[m]? = p[m]?) ∧
  (∀ (n : Nat) (p : List State) (s : State), p[n]? = some s →
    (∀ r, step s = .fault r → platformStep n p = .fault r) ∧
    (∀ r, step s = .refused r → platformStep n p = .refused r)) ∧
  (∀ (n : Nat) (p q : List State), platformStep n p = .next q → ∀ m, m ≠ n → q[m]? = p[m]?) ∧
  (∀ (ns : List Nat) (p q : List State), platformRun ns p = .next q →
    q.length = p.length ∧ ∀ (m : Nat) (s : State), p[m]? = some s →
      ∃ t, runSteps (ns.count m) s = .next t ∧ q[m]? = some t) ∧
  (∀ (n : Nat) (p : List State) (s : State) (ts : List Turn) (w : Word) (rest : List HostOp),
    p[n]? = some s → s.turns = .host :: ts → s.host = .access 0x000#9 w :: rest →
    ∃ q, platformStep n p = .next q ∧
      q[n]? = some { s with turns := ts, host := rest, rdata := 0x4B534731#32, errOut := false })
end

