-- ==== Sys2Proof/Laws/State.lean ====
section
/-! SUPPORT. One lemma per field of State for each named update, true by rfl, so that no proof unfolds a record
update. -/

namespace Sys2Proof.Machine

/-! ### respond -/

@[simp] theorem respond_key (v : Word) (e : Bool) (s : State) : (respond v e s).key = s.key := rfl
@[simp] theorem respond_nonce (v : Word) (e : Bool) (s : State) : (respond v e s).nonce = s.nonce := rfl
@[simp] theorem respond_counter (v : Word) (e : Bool) (s : State) : (respond v e s).counter = s.counter := rfl
@[simp] theorem respond_out (v : Word) (e : Bool) (s : State) : (respond v e s).out = s.out := rfl
@[simp] theorem respond_doneIe (v : Word) (e : Bool) (s : State) : (respond v e s).doneIe = s.doneIe := rfl
@[simp] theorem respond_errIe (v : Word) (e : Bool) (s : State) : (respond v e s).errIe = s.errIe := rfl
@[simp] theorem respond_busy (v : Word) (e : Bool) (s : State) : (respond v e s).busy = s.busy := rfl
@[simp] theorem respond_done (v : Word) (e : Bool) (s : State) : (respond v e s).done = s.done := rfl
@[simp] theorem respond_err (v : Word) (e : Bool) (s : State) : (respond v e s).err = s.err := rfl
@[simp] theorem respond_ecode (v : Word) (e : Bool) (s : State) : (respond v e s).ecode = s.ecode := rfl
@[simp] theorem respond_eaddr (v : Word) (e : Bool) (s : State) : (respond v e s).eaddr = s.eaddr := rfl
@[simp] theorem respond_ewe (v : Word) (e : Bool) (s : State) : (respond v e s).ewe = s.ewe := rfl
@[simp] theorem respond_s0 (v : Word) (e : Bool) (s : State) : (respond v e s).s0 = s.s0 := rfl
@[simp] theorem respond_x (v : Word) (e : Bool) (s : State) : (respond v e s).x = s.x := rfl
@[simp] theorem respond_phase (v : Word) (e : Bool) (s : State) : (respond v e s).phase = s.phase := rfl
@[simp] theorem respond_rnd (v : Word) (e : Bool) (s : State) : (respond v e s).rnd = s.rnd := rfl
@[simp] theorem respond_rdata (v : Word) (e : Bool) (s : State) : (respond v e s).rdata = v := rfl
@[simp] theorem respond_errOut (v : Word) (e : Bool) (s : State) : (respond v e s).errOut = e := rfl
@[simp] theorem respond_host (v : Word) (e : Bool) (s : State) : (respond v e s).host = s.host := rfl
@[simp] theorem respond_turns (v : Word) (e : Bool) (s : State) : (respond v e s).turns = s.turns := rfl
@[simp] theorem respond_draws (v : Word) (e : Bool) (s : State) : (respond v e s).draws = s.draws := rfl

/-! ### acceptRead -/

@[simp] theorem acceptRead_key (v : Word) (s : State) : (acceptRead v s).key = s.key := rfl
@[simp] theorem acceptRead_nonce (v : Word) (s : State) : (acceptRead v s).nonce = s.nonce := rfl
@[simp] theorem acceptRead_counter (v : Word) (s : State) : (acceptRead v s).counter = s.counter := rfl
@[simp] theorem acceptRead_out (v : Word) (s : State) : (acceptRead v s).out = s.out := rfl
@[simp] theorem acceptRead_doneIe (v : Word) (s : State) : (acceptRead v s).doneIe = s.doneIe := rfl
@[simp] theorem acceptRead_errIe (v : Word) (s : State) : (acceptRead v s).errIe = s.errIe := rfl
@[simp] theorem acceptRead_busy (v : Word) (s : State) : (acceptRead v s).busy = s.busy := rfl
@[simp] theorem acceptRead_done (v : Word) (s : State) : (acceptRead v s).done = s.done := rfl
@[simp] theorem acceptRead_err (v : Word) (s : State) : (acceptRead v s).err = s.err := rfl
@[simp] theorem acceptRead_ecode (v : Word) (s : State) : (acceptRead v s).ecode = s.ecode := rfl
@[simp] theorem acceptRead_eaddr (v : Word) (s : State) : (acceptRead v s).eaddr = s.eaddr := rfl
@[simp] theorem acceptRead_ewe (v : Word) (s : State) : (acceptRead v s).ewe = s.ewe := rfl
@[simp] theorem acceptRead_s0 (v : Word) (s : State) : (acceptRead v s).s0 = s.s0 := rfl
@[simp] theorem acceptRead_x (v : Word) (s : State) : (acceptRead v s).x = s.x := rfl
@[simp] theorem acceptRead_phase (v : Word) (s : State) : (acceptRead v s).phase = s.phase := rfl
@[simp] theorem acceptRead_rnd (v : Word) (s : State) : (acceptRead v s).rnd = s.rnd := rfl
@[simp] theorem acceptRead_rdata (v : Word) (s : State) : (acceptRead v s).rdata = v := rfl
@[simp] theorem acceptRead_errOut (v : Word) (s : State) : (acceptRead v s).errOut = false := rfl
@[simp] theorem acceptRead_host (v : Word) (s : State) : (acceptRead v s).host = s.host := rfl
@[simp] theorem acceptRead_turns (v : Word) (s : State) : (acceptRead v s).turns = s.turns := rfl
@[simp] theorem acceptRead_draws (v : Word) (s : State) : (acceptRead v s).draws = s.draws := rfl

/-! ### acceptWrite -/

@[simp] theorem acceptWrite_key (s : State) : (acceptWrite s).key = s.key := rfl
@[simp] theorem acceptWrite_nonce (s : State) : (acceptWrite s).nonce = s.nonce := rfl
@[simp] theorem acceptWrite_counter (s : State) : (acceptWrite s).counter = s.counter := rfl
@[simp] theorem acceptWrite_out (s : State) : (acceptWrite s).out = s.out := rfl
@[simp] theorem acceptWrite_doneIe (s : State) : (acceptWrite s).doneIe = s.doneIe := rfl
@[simp] theorem acceptWrite_errIe (s : State) : (acceptWrite s).errIe = s.errIe := rfl
@[simp] theorem acceptWrite_busy (s : State) : (acceptWrite s).busy = s.busy := rfl
@[simp] theorem acceptWrite_done (s : State) : (acceptWrite s).done = s.done := rfl
@[simp] theorem acceptWrite_err (s : State) : (acceptWrite s).err = s.err := rfl
@[simp] theorem acceptWrite_ecode (s : State) : (acceptWrite s).ecode = s.ecode := rfl
@[simp] theorem acceptWrite_eaddr (s : State) : (acceptWrite s).eaddr = s.eaddr := rfl
@[simp] theorem acceptWrite_ewe (s : State) : (acceptWrite s).ewe = s.ewe := rfl
@[simp] theorem acceptWrite_s0 (s : State) : (acceptWrite s).s0 = s.s0 := rfl
@[simp] theorem acceptWrite_x (s : State) : (acceptWrite s).x = s.x := rfl
@[simp] theorem acceptWrite_phase (s : State) : (acceptWrite s).phase = s.phase := rfl
@[simp] theorem acceptWrite_rnd (s : State) : (acceptWrite s).rnd = s.rnd := rfl
@[simp] theorem acceptWrite_rdata (s : State) : (acceptWrite s).rdata = 0#32 := rfl
@[simp] theorem acceptWrite_errOut (s : State) : (acceptWrite s).errOut = false := rfl
@[simp] theorem acceptWrite_host (s : State) : (acceptWrite s).host = s.host := rfl
@[simp] theorem acceptWrite_turns (s : State) : (acceptWrite s).turns = s.turns := rfl
@[simp] theorem acceptWrite_draws (s : State) : (acceptWrite s).draws = s.draws := rfl

/-! ### clearDone -/

@[simp] theorem clearDone_key (s : State) : (clearDone s).key = s.key := rfl
@[simp] theorem clearDone_nonce (s : State) : (clearDone s).nonce = s.nonce := rfl
@[simp] theorem clearDone_counter (s : State) : (clearDone s).counter = s.counter := rfl
@[simp] theorem clearDone_out (s : State) : (clearDone s).out = s.out := rfl
@[simp] theorem clearDone_doneIe (s : State) : (clearDone s).doneIe = s.doneIe := rfl
@[simp] theorem clearDone_errIe (s : State) : (clearDone s).errIe = s.errIe := rfl
@[simp] theorem clearDone_busy (s : State) : (clearDone s).busy = s.busy := rfl
@[simp] theorem clearDone_done (s : State) : (clearDone s).done = false := rfl
@[simp] theorem clearDone_err (s : State) : (clearDone s).err = s.err := rfl
@[simp] theorem clearDone_ecode (s : State) : (clearDone s).ecode = s.ecode := rfl
@[simp] theorem clearDone_eaddr (s : State) : (clearDone s).eaddr = s.eaddr := rfl
@[simp] theorem clearDone_ewe (s : State) : (clearDone s).ewe = s.ewe := rfl
@[simp] theorem clearDone_s0 (s : State) : (clearDone s).s0 = s.s0 := rfl
@[simp] theorem clearDone_x (s : State) : (clearDone s).x = s.x := rfl
@[simp] theorem clearDone_phase (s : State) : (clearDone s).phase = s.phase := rfl
@[simp] theorem clearDone_rnd (s : State) : (clearDone s).rnd = s.rnd := rfl
@[simp] theorem clearDone_rdata (s : State) : (clearDone s).rdata = s.rdata := rfl
@[simp] theorem clearDone_errOut (s : State) : (clearDone s).errOut = s.errOut := rfl
@[simp] theorem clearDone_host (s : State) : (clearDone s).host = s.host := rfl
@[simp] theorem clearDone_turns (s : State) : (clearDone s).turns = s.turns := rfl
@[simp] theorem clearDone_draws (s : State) : (clearDone s).draws = s.draws := rfl

/-! ### clearError -/

@[simp] theorem clearError_key (s : State) : (clearError s).key = s.key := rfl
@[simp] theorem clearError_nonce (s : State) : (clearError s).nonce = s.nonce := rfl
@[simp] theorem clearError_counter (s : State) : (clearError s).counter = s.counter := rfl
@[simp] theorem clearError_out (s : State) : (clearError s).out = s.out := rfl
@[simp] theorem clearError_doneIe (s : State) : (clearError s).doneIe = s.doneIe := rfl
@[simp] theorem clearError_errIe (s : State) : (clearError s).errIe = s.errIe := rfl
@[simp] theorem clearError_busy (s : State) : (clearError s).busy = s.busy := rfl
@[simp] theorem clearError_done (s : State) : (clearError s).done = s.done := rfl
@[simp] theorem clearError_err (s : State) : (clearError s).err = false := rfl
@[simp] theorem clearError_ecode (s : State) : (clearError s).ecode = 0#3 := rfl
@[simp] theorem clearError_eaddr (s : State) : (clearError s).eaddr = 0#8 := rfl
@[simp] theorem clearError_ewe (s : State) : (clearError s).ewe = false := rfl
@[simp] theorem clearError_s0 (s : State) : (clearError s).s0 = s.s0 := rfl
@[simp] theorem clearError_x (s : State) : (clearError s).x = s.x := rfl
@[simp] theorem clearError_phase (s : State) : (clearError s).phase = s.phase := rfl
@[simp] theorem clearError_rnd (s : State) : (clearError s).rnd = s.rnd := rfl
@[simp] theorem clearError_rdata (s : State) : (clearError s).rdata = s.rdata := rfl
@[simp] theorem clearError_errOut (s : State) : (clearError s).errOut = s.errOut := rfl
@[simp] theorem clearError_host (s : State) : (clearError s).host = s.host := rfl
@[simp] theorem clearError_turns (s : State) : (clearError s).turns = s.turns := rfl
@[simp] theorem clearError_draws (s : State) : (clearError s).draws = s.draws := rfl

/-! ### setEnables -/

@[simp] theorem setEnables_key (a b : Bool) (s : State) : (setEnables a b s).key = s.key := rfl
@[simp] theorem setEnables_nonce (a b : Bool) (s : State) : (setEnables a b s).nonce = s.nonce := rfl
@[simp] theorem setEnables_counter (a b : Bool) (s : State) : (setEnables a b s).counter = s.counter := rfl
@[simp] theorem setEnables_out (a b : Bool) (s : State) : (setEnables a b s).out = s.out := rfl
@[simp] theorem setEnables_doneIe (a b : Bool) (s : State) : (setEnables a b s).doneIe = a := rfl
@[simp] theorem setEnables_errIe (a b : Bool) (s : State) : (setEnables a b s).errIe = b := rfl
@[simp] theorem setEnables_busy (a b : Bool) (s : State) : (setEnables a b s).busy = s.busy := rfl
@[simp] theorem setEnables_done (a b : Bool) (s : State) : (setEnables a b s).done = s.done := rfl
@[simp] theorem setEnables_err (a b : Bool) (s : State) : (setEnables a b s).err = s.err := rfl
@[simp] theorem setEnables_ecode (a b : Bool) (s : State) : (setEnables a b s).ecode = s.ecode := rfl
@[simp] theorem setEnables_eaddr (a b : Bool) (s : State) : (setEnables a b s).eaddr = s.eaddr := rfl
@[simp] theorem setEnables_ewe (a b : Bool) (s : State) : (setEnables a b s).ewe = s.ewe := rfl
@[simp] theorem setEnables_s0 (a b : Bool) (s : State) : (setEnables a b s).s0 = s.s0 := rfl
@[simp] theorem setEnables_x (a b : Bool) (s : State) : (setEnables a b s).x = s.x := rfl
@[simp] theorem setEnables_phase (a b : Bool) (s : State) : (setEnables a b s).phase = s.phase := rfl
@[simp] theorem setEnables_rnd (a b : Bool) (s : State) : (setEnables a b s).rnd = s.rnd := rfl
@[simp] theorem setEnables_rdata (a b : Bool) (s : State) : (setEnables a b s).rdata = s.rdata := rfl
@[simp] theorem setEnables_errOut (a b : Bool) (s : State) : (setEnables a b s).errOut = s.errOut := rfl
@[simp] theorem setEnables_host (a b : Bool) (s : State) : (setEnables a b s).host = s.host := rfl
@[simp] theorem setEnables_turns (a b : Bool) (s : State) : (setEnables a b s).turns = s.turns := rfl
@[simp] theorem setEnables_draws (a b : Bool) (s : State) : (setEnables a b s).draws = s.draws := rfl

/-! ### setKey -/

@[simp] theorem setKey_key (i : Fin 8) (v : Word) (s : State) : (setKey i v s).key = s.key.set i v := rfl
@[simp] theorem setKey_nonce (i : Fin 8) (v : Word) (s : State) : (setKey i v s).nonce = s.nonce := rfl
@[simp] theorem setKey_counter (i : Fin 8) (v : Word) (s : State) : (setKey i v s).counter = s.counter := rfl
@[simp] theorem setKey_out (i : Fin 8) (v : Word) (s : State) : (setKey i v s).out = s.out := rfl
@[simp] theorem setKey_doneIe (i : Fin 8) (v : Word) (s : State) : (setKey i v s).doneIe = s.doneIe := rfl
@[simp] theorem setKey_errIe (i : Fin 8) (v : Word) (s : State) : (setKey i v s).errIe = s.errIe := rfl
@[simp] theorem setKey_busy (i : Fin 8) (v : Word) (s : State) : (setKey i v s).busy = s.busy := rfl
@[simp] theorem setKey_done (i : Fin 8) (v : Word) (s : State) : (setKey i v s).done = s.done := rfl
@[simp] theorem setKey_err (i : Fin 8) (v : Word) (s : State) : (setKey i v s).err = s.err := rfl
@[simp] theorem setKey_ecode (i : Fin 8) (v : Word) (s : State) : (setKey i v s).ecode = s.ecode := rfl
@[simp] theorem setKey_eaddr (i : Fin 8) (v : Word) (s : State) : (setKey i v s).eaddr = s.eaddr := rfl
@[simp] theorem setKey_ewe (i : Fin 8) (v : Word) (s : State) : (setKey i v s).ewe = s.ewe := rfl
@[simp] theorem setKey_s0 (i : Fin 8) (v : Word) (s : State) : (setKey i v s).s0 = s.s0 := rfl
@[simp] theorem setKey_x (i : Fin 8) (v : Word) (s : State) : (setKey i v s).x = s.x := rfl
@[simp] theorem setKey_phase (i : Fin 8) (v : Word) (s : State) : (setKey i v s).phase = s.phase := rfl
@[simp] theorem setKey_rnd (i : Fin 8) (v : Word) (s : State) : (setKey i v s).rnd = s.rnd := rfl
@[simp] theorem setKey_rdata (i : Fin 8) (v : Word) (s : State) : (setKey i v s).rdata = s.rdata := rfl
@[simp] theorem setKey_errOut (i : Fin 8) (v : Word) (s : State) : (setKey i v s).errOut = s.errOut := rfl
@[simp] theorem setKey_host (i : Fin 8) (v : Word) (s : State) : (setKey i v s).host = s.host := rfl
@[simp] theorem setKey_turns (i : Fin 8) (v : Word) (s : State) : (setKey i v s).turns = s.turns := rfl
@[simp] theorem setKey_draws (i : Fin 8) (v : Word) (s : State) : (setKey i v s).draws = s.draws := rfl

/-! ### setNonce -/

@[simp] theorem setNonce_key (j : Fin 3) (v : Word) (s : State) : (setNonce j v s).key = s.key := rfl
@[simp] theorem setNonce_nonce (j : Fin 3) (v : Word) (s : State) : (setNonce j v s).nonce = s.nonce.set j v := rfl
@[simp] theorem setNonce_counter (j : Fin 3) (v : Word) (s : State) : (setNonce j v s).counter = s.counter := rfl
@[simp] theorem setNonce_out (j : Fin 3) (v : Word) (s : State) : (setNonce j v s).out = s.out := rfl
@[simp] theorem setNonce_doneIe (j : Fin 3) (v : Word) (s : State) : (setNonce j v s).doneIe = s.doneIe := rfl
@[simp] theorem setNonce_errIe (j : Fin 3) (v : Word) (s : State) : (setNonce j v s).errIe = s.errIe := rfl
@[simp] theorem setNonce_busy (j : Fin 3) (v : Word) (s : State) : (setNonce j v s).busy = s.busy := rfl
@[simp] theorem setNonce_done (j : Fin 3) (v : Word) (s : State) : (setNonce j v s).done = s.done := rfl
@[simp] theorem setNonce_err (j : Fin 3) (v : Word) (s : State) : (setNonce j v s).err = s.err := rfl
@[simp] theorem setNonce_ecode (j : Fin 3) (v : Word) (s : State) : (setNonce j v s).ecode = s.ecode := rfl
@[simp] theorem setNonce_eaddr (j : Fin 3) (v : Word) (s : State) : (setNonce j v s).eaddr = s.eaddr := rfl
@[simp] theorem setNonce_ewe (j : Fin 3) (v : Word) (s : State) : (setNonce j v s).ewe = s.ewe := rfl
@[simp] theorem setNonce_s0 (j : Fin 3) (v : Word) (s : State) : (setNonce j v s).s0 = s.s0 := rfl
@[simp] theorem setNonce_x (j : Fin 3) (v : Word) (s : State) : (setNonce j v s).x = s.x := rfl
@[simp] theorem setNonce_phase (j : Fin 3) (v : Word) (s : State) : (setNonce j v s).phase = s.phase := rfl
@[simp] theorem setNonce_rnd (j : Fin 3) (v : Word) (s : State) : (setNonce j v s).rnd = s.rnd := rfl
@[simp] theorem setNonce_rdata (j : Fin 3) (v : Word) (s : State) : (setNonce j v s).rdata = s.rdata := rfl
@[simp] theorem setNonce_errOut (j : Fin 3) (v : Word) (s : State) : (setNonce j v s).errOut = s.errOut := rfl
@[simp] theorem setNonce_host (j : Fin 3) (v : Word) (s : State) : (setNonce j v s).host = s.host := rfl
@[simp] theorem setNonce_turns (j : Fin 3) (v : Word) (s : State) : (setNonce j v s).turns = s.turns := rfl
@[simp] theorem setNonce_draws (j : Fin 3) (v : Word) (s : State) : (setNonce j v s).draws = s.draws := rfl

/-! ### setCounter -/

@[simp] theorem setCounter_key (v : Word) (s : State) : (setCounter v s).key = s.key := rfl
@[simp] theorem setCounter_nonce (v : Word) (s : State) : (setCounter v s).nonce = s.nonce := rfl
@[simp] theorem setCounter_counter (v : Word) (s : State) : (setCounter v s).counter = v := rfl
@[simp] theorem setCounter_out (v : Word) (s : State) : (setCounter v s).out = s.out := rfl
@[simp] theorem setCounter_doneIe (v : Word) (s : State) : (setCounter v s).doneIe = s.doneIe := rfl
@[simp] theorem setCounter_errIe (v : Word) (s : State) : (setCounter v s).errIe = s.errIe := rfl
@[simp] theorem setCounter_busy (v : Word) (s : State) : (setCounter v s).busy = s.busy := rfl
@[simp] theorem setCounter_done (v : Word) (s : State) : (setCounter v s).done = s.done := rfl
@[simp] theorem setCounter_err (v : Word) (s : State) : (setCounter v s).err = s.err := rfl
@[simp] theorem setCounter_ecode (v : Word) (s : State) : (setCounter v s).ecode = s.ecode := rfl
@[simp] theorem setCounter_eaddr (v : Word) (s : State) : (setCounter v s).eaddr = s.eaddr := rfl
@[simp] theorem setCounter_ewe (v : Word) (s : State) : (setCounter v s).ewe = s.ewe := rfl
@[simp] theorem setCounter_s0 (v : Word) (s : State) : (setCounter v s).s0 = s.s0 := rfl
@[simp] theorem setCounter_x (v : Word) (s : State) : (setCounter v s).x = s.x := rfl
@[simp] theorem setCounter_phase (v : Word) (s : State) : (setCounter v s).phase = s.phase := rfl
@[simp] theorem setCounter_rnd (v : Word) (s : State) : (setCounter v s).rnd = s.rnd := rfl
@[simp] theorem setCounter_rdata (v : Word) (s : State) : (setCounter v s).rdata = s.rdata := rfl
@[simp] theorem setCounter_errOut (v : Word) (s : State) : (setCounter v s).errOut = s.errOut := rfl
@[simp] theorem setCounter_host (v : Word) (s : State) : (setCounter v s).host = s.host := rfl
@[simp] theorem setCounter_turns (v : Word) (s : State) : (setCounter v s).turns = s.turns := rfl
@[simp] theorem setCounter_draws (v : Word) (s : State) : (setCounter v s).draws = s.draws := rfl

/-! ### startBlock -/

@[simp] theorem startBlock_key (s : State) : (startBlock s).key = s.key := rfl
@[simp] theorem startBlock_nonce (s : State) : (startBlock s).nonce = s.nonce := rfl
@[simp] theorem startBlock_counter (s : State) : (startBlock s).counter = s.counter := rfl
@[simp] theorem startBlock_out (s : State) : (startBlock s).out = s.out := rfl
@[simp] theorem startBlock_doneIe (s : State) : (startBlock s).doneIe = s.doneIe := rfl
@[simp] theorem startBlock_errIe (s : State) : (startBlock s).errIe = s.errIe := rfl
@[simp] theorem startBlock_busy (s : State) : (startBlock s).busy = true := rfl
@[simp] theorem startBlock_done (s : State) : (startBlock s).done = false := rfl
@[simp] theorem startBlock_err (s : State) : (startBlock s).err = s.err := rfl
@[simp] theorem startBlock_ecode (s : State) : (startBlock s).ecode = s.ecode := rfl
@[simp] theorem startBlock_eaddr (s : State) : (startBlock s).eaddr = s.eaddr := rfl
@[simp] theorem startBlock_ewe (s : State) : (startBlock s).ewe = s.ewe := rfl
@[simp] theorem startBlock_s0 (s : State) : (startBlock s).s0 = latchedInputs s := rfl
@[simp] theorem startBlock_x (s : State) : (startBlock s).x = latchedInputs s := rfl
@[simp] theorem startBlock_phase (s : State) : (startBlock s).phase = 0b01#2 := rfl
@[simp] theorem startBlock_rnd (s : State) : (startBlock s).rnd = 0#5 := rfl
@[simp] theorem startBlock_rdata (s : State) : (startBlock s).rdata = s.rdata := rfl
@[simp] theorem startBlock_errOut (s : State) : (startBlock s).errOut = s.errOut := rfl
@[simp] theorem startBlock_host (s : State) : (startBlock s).host = s.host := rfl
@[simp] theorem startBlock_turns (s : State) : (startBlock s).turns = s.turns := rfl
@[simp] theorem startBlock_draws (s : State) : (startBlock s).draws = s.draws := rfl

/-! ### publish -/

@[simp] theorem publish_key (y : Words16) (s : State) : (publish y s).key = s.key := rfl
@[simp] theorem publish_nonce (y : Words16) (s : State) : (publish y s).nonce = s.nonce := rfl
@[simp] theorem publish_counter (y : Words16) (s : State) : (publish y s).counter = add32 s.s0[12] 1#32 := rfl
@[simp] theorem publish_out (y : Words16) (s : State) : (publish y s).out = y := rfl
@[simp] theorem publish_doneIe (y : Words16) (s : State) : (publish y s).doneIe = s.doneIe := rfl
@[simp] theorem publish_errIe (y : Words16) (s : State) : (publish y s).errIe = s.errIe := rfl
@[simp] theorem publish_busy (y : Words16) (s : State) : (publish y s).busy = false := rfl
@[simp] theorem publish_done (y : Words16) (s : State) : (publish y s).done = true := rfl
@[simp] theorem publish_err (y : Words16) (s : State) : (publish y s).err = s.err := rfl
@[simp] theorem publish_ecode (y : Words16) (s : State) : (publish y s).ecode = s.ecode := rfl
@[simp] theorem publish_eaddr (y : Words16) (s : State) : (publish y s).eaddr = s.eaddr := rfl
@[simp] theorem publish_ewe (y : Words16) (s : State) : (publish y s).ewe = s.ewe := rfl
@[simp] theorem publish_s0 (y : Words16) (s : State) : (publish y s).s0 = s.s0 := rfl
@[simp] theorem publish_x (y : Words16) (s : State) : (publish y s).x = s.x := rfl
@[simp] theorem publish_phase (y : Words16) (s : State) : (publish y s).phase = 0b00#2 := rfl
@[simp] theorem publish_rnd (y : Words16) (s : State) : (publish y s).rnd = s.rnd := rfl
@[simp] theorem publish_rdata (y : Words16) (s : State) : (publish y s).rdata = s.rdata := rfl
@[simp] theorem publish_errOut (y : Words16) (s : State) : (publish y s).errOut = s.errOut := rfl
@[simp] theorem publish_host (y : Words16) (s : State) : (publish y s).host = s.host := rfl
@[simp] theorem publish_turns (y : Words16) (s : State) : (publish y s).turns = s.turns := rfl
@[simp] theorem publish_draws (y : Words16) (s : State) : (publish y s).draws = s.draws := rfl

/-! ### complete -/

@[simp] theorem complete_key (s : State) : (complete s).key = s.key := rfl
@[simp] theorem complete_nonce (s : State) : (complete s).nonce = s.nonce := rfl
@[simp] theorem complete_counter (s : State) : (complete s).counter = add32 s.s0[12] 1#32 := rfl
@[simp] theorem complete_out (s : State) : (complete s).out = blockWords Config.sigma (keyWords s.s0) s.s0[12] (nonceWords s.s0) := rfl
@[simp] theorem complete_doneIe (s : State) : (complete s).doneIe = s.doneIe := rfl
@[simp] theorem complete_errIe (s : State) : (complete s).errIe = s.errIe := rfl
@[simp] theorem complete_busy (s : State) : (complete s).busy = false := rfl
@[simp] theorem complete_done (s : State) : (complete s).done = true := rfl
@[simp] theorem complete_err (s : State) : (complete s).err = s.err := rfl
@[simp] theorem complete_ecode (s : State) : (complete s).ecode = s.ecode := rfl
@[simp] theorem complete_eaddr (s : State) : (complete s).eaddr = s.eaddr := rfl
@[simp] theorem complete_ewe (s : State) : (complete s).ewe = s.ewe := rfl
@[simp] theorem complete_s0 (s : State) : (complete s).s0 = s.s0 := rfl
@[simp] theorem complete_x (s : State) : (complete s).x = s.x := rfl
@[simp] theorem complete_phase (s : State) : (complete s).phase = 0b00#2 := rfl
@[simp] theorem complete_rnd (s : State) : (complete s).rnd = s.rnd := rfl
@[simp] theorem complete_rdata (s : State) : (complete s).rdata = s.rdata := rfl
@[simp] theorem complete_errOut (s : State) : (complete s).errOut = s.errOut := rfl
@[simp] theorem complete_host (s : State) : (complete s).host = s.host := rfl
@[simp] theorem complete_turns (s : State) : (complete s).turns = s.turns := rfl
@[simp] theorem complete_draws (s : State) : (complete s).draws = s.draws := rfl

/-! ### rejected -/

@[simp] theorem rejected_key (c : BitVec 3) (a : BitVec 8) (we : Bool) (s : State) : (rejected c a we s).key = s.key := rfl
@[simp] theorem rejected_nonce (c : BitVec 3) (a : BitVec 8) (we : Bool) (s : State) : (rejected c a we s).nonce = s.nonce := rfl
@[simp] theorem rejected_counter (c : BitVec 3) (a : BitVec 8) (we : Bool) (s : State) : (rejected c a we s).counter = s.counter := rfl
@[simp] theorem rejected_out (c : BitVec 3) (a : BitVec 8) (we : Bool) (s : State) : (rejected c a we s).out = s.out := rfl
@[simp] theorem rejected_doneIe (c : BitVec 3) (a : BitVec 8) (we : Bool) (s : State) : (rejected c a we s).doneIe = s.doneIe := rfl
@[simp] theorem rejected_errIe (c : BitVec 3) (a : BitVec 8) (we : Bool) (s : State) : (rejected c a we s).errIe = s.errIe := rfl
@[simp] theorem rejected_busy (c : BitVec 3) (a : BitVec 8) (we : Bool) (s : State) : (rejected c a we s).busy = s.busy := rfl
@[simp] theorem rejected_done (c : BitVec 3) (a : BitVec 8) (we : Bool) (s : State) : (rejected c a we s).done = s.done := rfl
@[simp] theorem rejected_err (c : BitVec 3) (a : BitVec 8) (we : Bool) (s : State) : (rejected c a we s).err = true := rfl
@[simp] theorem rejected_ecode (c : BitVec 3) (a : BitVec 8) (we : Bool) (s : State) : (rejected c a we s).ecode = if s.err then s.ecode else c := rfl
@[simp] theorem rejected_eaddr (c : BitVec 3) (a : BitVec 8) (we : Bool) (s : State) : (rejected c a we s).eaddr = if s.err then s.eaddr else a := rfl
@[simp] theorem rejected_ewe (c : BitVec 3) (a : BitVec 8) (we : Bool) (s : State) : (rejected c a we s).ewe = if s.err then s.ewe else we := rfl
@[simp] theorem rejected_s0 (c : BitVec 3) (a : BitVec 8) (we : Bool) (s : State) : (rejected c a we s).s0 = s.s0 := rfl
@[simp] theorem rejected_x (c : BitVec 3) (a : BitVec 8) (we : Bool) (s : State) : (rejected c a we s).x = s.x := rfl
@[simp] theorem rejected_phase (c : BitVec 3) (a : BitVec 8) (we : Bool) (s : State) : (rejected c a we s).phase = s.phase := rfl
@[simp] theorem rejected_rnd (c : BitVec 3) (a : BitVec 8) (we : Bool) (s : State) : (rejected c a we s).rnd = s.rnd := rfl
@[simp] theorem rejected_rdata (c : BitVec 3) (a : BitVec 8) (we : Bool) (s : State) : (rejected c a we s).rdata = 0#32 := rfl
@[simp] theorem rejected_errOut (c : BitVec 3) (a : BitVec 8) (we : Bool) (s : State) : (rejected c a we s).errOut = true := rfl
@[simp] theorem rejected_host (c : BitVec 3) (a : BitVec 8) (we : Bool) (s : State) : (rejected c a we s).host = s.host := rfl
@[simp] theorem rejected_turns (c : BitVec 3) (a : BitVec 8) (we : Bool) (s : State) : (rejected c a we s).turns = s.turns := rfl
@[simp] theorem rejected_draws (c : BitVec 3) (a : BitVec 8) (we : Bool) (s : State) : (rejected c a we s).draws = s.draws := rfl

end Sys2Proof.Machine
end

