-- ==== Sys2Proof/Laws/Ops.lean ====
section
/-! SUPPORT. One lemma for each shared operation, saying once everything it can do; the proofs cite these instead of
unfolding the operations. -/

namespace Sys2Proof.Machine

/-- Everything a rejected access does. -/
theorem accessError_eq (c : Cause) (addr : BitVec 8) (we : Bool) (s : State) :
    accessError c addr we s = rejected (causeCode c) addr we s := by
  unfold accessError recordError rejected respond
  cases h : s.err <;> simp [h]

/-- Everything a write to an input register does. -/
theorem guardedWrite_cases (addr : BitVec 8) (f : State → State) (s : State) :
    (s.busy = true ∧ guardedWrite addr f s = rejected 4#3 addr true s) ∨
    (s.busy = false ∧ guardedWrite addr f s = acceptWrite (f s)) := by
  cases h : s.busy
  · exact .inr ⟨rfl, by simp [guardedWrite, h]⟩
  · exact .inl ⟨rfl, by simp [guardedWrite, h, accessError_eq, causeCode]⟩

/-- Everything WR_CTRL does. -/
theorem execWrCtrl_cases (w : Word) (s : State) :
    (startField w = true ∧ s.busy = true ∧ execWrCtrl w s = .next (rejected 5#3 ctrlAddr true s)) ∨
    (startField w = true ∧ s.busy = false ∧
      execWrCtrl w s = .next (acceptWrite (startBlock (setEnables (doneIeField w) (errIeField w) s)))) ∨
    (startField w = false ∧
      execWrCtrl w s = .next (acceptWrite (setEnables (doneIeField w) (errIeField w) s))) := by
  unfold execWrCtrl
  cases hw : startField w <;> cases hb : s.busy <;> simp [accessError_eq, causeCode]

/-- Every instruction answers a next state. -/
theorem exec_next (i : Instr) (s : State) : ∃ t, exec i s = .next t := by
  cases i
  case wrCtrl w => rcases execWrCtrl_cases w s with ⟨_, _, h⟩ | ⟨_, _, h⟩ | ⟨_, h⟩ <;> exact ⟨_, h⟩
  all_goals exact ⟨_, rfl⟩

/-- Every command of the host decodes: the rows cover the 512 values. -/
theorem haRows_cover (cmd : BitVec 9) : (haRows.find? (·.selects cmd)).isSome = true := by
  revert cmd; decide +kernel

theorem decode_ha_ok (cmd : BitVec 9) (w : Word) : ∃ i, decode (.ha cmd w) = .ok i := by
  obtain ⟨r, hr⟩ := Option.isSome_iff_exists.mp (haRows_cover cmd)
  exact ⟨r.read cmd w, by simp [decode, decodeHa, hr]⟩

/-- A packet that decodes runs its instruction. -/
theorem runPacket_of_decode {p : Packet} {i : Instr} (h : decode p = .ok i) (s : State) :
    runPacket p s = exec i s := by simp [runPacket, h]

/-- An access of the host always answers a next state. -/
theorem runPacket_ha_next (cmd : BitVec 9) (w : Word) (s : State) : ∃ t, runPacket (.ha cmd w) s = .next t := by
  obtain ⟨i, hi⟩ := decode_ha_ok cmd w
  rw [runPacket_of_decode hi]
  exact exec_next i s

/-- Everything a step does: the next turn's agent moves. -/
theorem step_cases (s : State) :
    (∃ t rest, s.turns = t :: rest ∧ nextTurn s = t ∧ step s = takeTurn t { s with turns := rest }) ∨
    (s.turns = [] ∧ nextTurn s = defaultTurn s ∧ step s = takeTurn (defaultTurn s) s) := by
  cases h : s.turns with
  | nil => exact .inr ⟨rfl, by simp [nextTurn, h], by simp [step, h]⟩
  | cons t rest => exact .inl ⟨t, rest, rfl, by simp [nextTurn, h], by simp [step, h]⟩

/-- A run of one step more: the step first, then the rest, or the step's stop. -/
theorem runSteps_succ (n : Nat) (s : State) :
    (∃ t, step s = .next t ∧ runSteps (n + 1) s = runSteps n t) ∨
    (∃ r, step s = .fault r ∧ runSteps (n + 1) s = .fault r) ∨
    (∃ r, step s = .refused r ∧ runSteps (n + 1) s = .refused r) := by
  have e : Sys2Proof.core.step s = step s := rfl
  cases h : step s with
  | next t => exact .inl ⟨t, rfl, by simp only [runSteps, Host.Core.run, e, h]; rfl⟩
  | fault r => exact .inr (.inl ⟨r, rfl, by simp only [runSteps, Host.Core.run, e, h]; rfl⟩)
  | refused r => exact .inr (.inr ⟨r, rfl, by simp only [runSteps, Host.Core.run, e, h]; rfl⟩)

/-- A run cut in two where its first part answers a next state. -/
theorem runSteps_add {s t : State} (m n : Nat) (h : runSteps m s = .next t) :
    runSteps (m + n) s = runSteps n t := by
  induction m generalizing s with
  | zero => rw [Nat.zero_add, ← Host.Outcome.next.inj (show Host.Outcome.next s = .next t from h)]
  | succ m ih =>
    rw [show m + 1 + n = m + n + 1 by omega]
    rcases runSteps_succ m s with ⟨u, hu, e⟩ | ⟨r, _, e⟩ | ⟨r, _, e⟩
    · rcases runSteps_succ (m + n) s with ⟨v, hv, f⟩ | ⟨_, hv, _⟩ | ⟨_, hv, _⟩ <;> rw [hu] at hv <;> cases hv
      rw [f, ih (e ▸ h)]
    · rw [h] at e; cases e
    · rw [h] at e; cases e

/-- Everything a step of a platform does: nothing where there is no such instance, else that instance's own step, in its
own place, or its stop. -/
theorem platformStep_cases (n : Nat) (p : List State) :
    (p[n]? = none ∧ platformStep n p = .next p) ∨
    (∃ s, p[n]? = some s ∧
      ((∃ t, step s = .next t ∧ platformStep n p = .next (p.set n t)) ∨
       (∃ r, step s = .fault r ∧ platformStep n p = .fault r) ∨
       (∃ r, step s = .refused r ∧ platformStep n p = .refused r))) := by
  unfold platformStep
  cases h : p[n]? with
  | none => exact .inl ⟨rfl, rfl⟩
  | some s =>
    refine .inr ⟨s, rfl, ?_⟩
    cases hs : step s with
    | next t => exact .inl ⟨t, rfl, by simp only [hs]⟩
    | fault r => exact .inr (.inl ⟨r, rfl, by simp only [hs]⟩)
    | refused r => exact .inr (.inr ⟨r, rfl, by simp only [hs]⟩)

/-- Everything a move of the host does: nothing, one access, or one read of a POLL. -/
theorem hostMove_cases (s : State) :
    (s.host = [] ∧ hostMove s = .next s) ∨
    (∃ cmd w rest i, s.host = .access cmd w :: rest ∧ decode (.ha cmd w) = .ok i ∧
      hostMove s = exec i { s with host := rest }) ∨
    (∃ addr mask value rest i t, s.host = .poll addr mask value :: rest ∧ decode (pollPacket addr) = .ok i ∧
      exec i s = .next t ∧ hostMove s = .next (pollNext mask value rest t)) := by
  cases h : s.host with
  | nil => exact .inl ⟨rfl, by simp [hostMove, h]⟩
  | cons o rest =>
    cases o with
    | access cmd w =>
      obtain ⟨i, hi⟩ := decode_ha_ok cmd w
      exact .inr (.inl ⟨cmd, w, rest, i, rfl, hi, by simp [hostMove, h, runPacket_of_decode hi]⟩)
    | poll addr mask value =>
      obtain ⟨i, hi⟩ := decode_ha_ok (0b0#1 ++ addr) 0#32
      obtain ⟨t, ht⟩ := exec_next i s
      have hp : runPacket (pollPacket addr) s = .next t := by rw [pollPacket, runPacket_of_decode hi, ht]
      exact .inr (.inr ⟨addr, mask, value, rest, i, t, rfl, hi, ht, by simp [hostMove, h, hp]⟩)

/-- No instruction touches the host's program, the turns or the free-value counter. -/
theorem exec_keeps_environment {i : Instr} {s t : State} (h : exec i s = .next t) :
    t.host = s.host ∧ t.turns = s.turns ∧ t.draws = s.draws := by
  cases i
  case wrCtrl w =>
    rcases execWrCtrl_cases w s with ⟨_, _, e⟩ | ⟨_, _, e⟩ | ⟨_, e⟩ <;>
      (simp only [exec, e, Host.Outcome.next.injEq] at h; subst h; simp)
  case wrStatus w =>
    simp only [exec, execWrStatus, Host.Outcome.next.injEq] at h
    subst h
    cases clrDoneField w <;> cases clrErrField w <;> simp
  case wrCounter w =>
    simp only [exec, execWrCounter, Host.Outcome.next.injEq] at h; subst h
    rcases guardedWrite_cases counterAddr (setCounter w) s with ⟨_, e⟩ | ⟨_, e⟩ <;> simp [e]
  case wrNonce0 w =>
    simp only [exec, execWrNonce0, Host.Outcome.next.injEq] at h; subst h
    rcases guardedWrite_cases (nonceAddr 0) (setNonce 0 w) s with ⟨_, e⟩ | ⟨_, e⟩ <;> simp [e]
  case wrNonce1 w =>
    simp only [exec, execWrNonce1, Host.Outcome.next.injEq] at h; subst h
    rcases guardedWrite_cases (nonceAddr 1) (setNonce 1 w) s with ⟨_, e⟩ | ⟨_, e⟩ <;> simp [e]
  case wrNonce2 w =>
    simp only [exec, execWrNonce2, Host.Outcome.next.injEq] at h; subst h
    rcases guardedWrite_cases (nonceAddr 2) (setNonce 2 w) s with ⟨_, e⟩ | ⟨_, e⟩ <;> simp [e]
  case wrKey i w =>
    simp only [exec, execWrKey, Host.Outcome.next.injEq] at h; subst h
    rcases guardedWrite_cases (keyAddr i) (setKey i w) s with ⟨_, e⟩ | ⟨_, e⟩ <;> simp [e]
  case accMisaligned01 | accMisaligned10 | accMisaligned11 | accUnmapped =>
    simp only [exec, execAccMisaligned01, execAccMisaligned10, execAccMisaligned11, execAccUnmapped,
      accessError_eq, Host.Outcome.next.injEq] at h
    subst h; simp
  case wrId | wrErrinfo | wrOut =>
    simp only [exec, execWrId, execWrErrinfo, execWrOut, accessError_eq, Host.Outcome.next.injEq] at h
    subst h; simp
  all_goals (cases h; exact ⟨rfl, rfl, rfl⟩)

end Sys2Proof.Machine
end

