-- ==== Sys2Proof/Laws/PerInstr.lean ====
section
/-! SUPPORT. Statements about every instruction, one lemma per constructor. EncodingFitsRow: the packet the encoder
writes has the fixed bits that the instruction's row of spec/opcode_table.json gives (its match under its mask). -/

set_option Elab.async false

namespace Sys2Proof.Laws.EncodingFitsRow

/-- The row's match and mask in spec/opcode_table.json. -/
def rowOf : Instr → Nat × Nat
  | .accMisaligned01 _ _ => (0x001, 0x003)
  | .accMisaligned10 _ _ => (0x002, 0x003)
  | .accMisaligned11 _ _ => (0x003, 0x003)
  | .accUnmapped _ _ => (0x080, 0x083)
  | .rdId => (0x000, 0x1FF)
  | .wrId _ => (0x100, 0x1FF)
  | .rdCtrl => (0x004, 0x1FF)
  | .wrCtrl _ => (0x104, 0x1FF)
  | .rdStatus => (0x008, 0x1FF)
  | .wrStatus _ => (0x108, 0x1FF)
  | .rdErrinfo => (0x00C, 0x1FF)
  | .wrErrinfo _ => (0x10C, 0x1FF)
  | .rdCounter => (0x010, 0x1FF)
  | .wrCounter _ => (0x110, 0x1FF)
  | .rdNonce0 => (0x014, 0x1FF)
  | .rdNonce1 => (0x018, 0x1FF)
  | .rdNonce2 => (0x01C, 0x1FF)
  | .wrNonce0 _ => (0x114, 0x1FF)
  | .wrNonce1 _ => (0x118, 0x1FF)
  | .wrNonce2 _ => (0x11C, 0x1FF)
  | .rdKey _ => (0x020, 0x1E3)
  | .wrKey _ _ => (0x120, 0x1E3)
  | .rdOut _ => (0x040, 0x1C3)
  | .wrOut _ _ => (0x140, 0x1C3)
  | .seqCol _ => (0x20, 0x61)
  | .seqDiag _ => (0x21, 0x61)
  | .seqFinal _ => (0x40, 0x60)

/-- The bits of a packet as the table numbers them. -/
def bitsOf : Packet → Nat
  | .ha cmd _ => cmd.toNat
  | .seq v => v.toNat

/-- The packet's bits under the row's mask are the row's match. -/
def Statement (i : Instr) : Prop := bitsOf (encode i) &&& (rowOf i).2 = (rowOf i).1

theorem accMisaligned01 (dir : Dir) (slot : BitVec 6) : Statement (.accMisaligned01 dir slot) := by
  have h : ∀ (we : Bool) (slot : BitVec 6), bitsOf (.ha (cmdOf we slot 0b01#2) 0#32) &&& 0x003 = 0x001 := by
    decide +kernel
  cases dir
  · exact h false slot
  · exact h true slot

theorem accMisaligned10 (dir : Dir) (slot : BitVec 6) : Statement (.accMisaligned10 dir slot) := by
  have h : ∀ (we : Bool) (slot : BitVec 6), bitsOf (.ha (cmdOf we slot 0b10#2) 0#32) &&& 0x003 = 0x002 := by
    decide +kernel
  cases dir
  · exact h false slot
  · exact h true slot

theorem accMisaligned11 (dir : Dir) (slot : BitVec 6) : Statement (.accMisaligned11 dir slot) := by
  have h : ∀ (we : Bool) (slot : BitVec 6), bitsOf (.ha (cmdOf we slot 0b11#2) 0#32) &&& 0x003 = 0x003 := by
    decide +kernel
  cases dir
  · exact h false slot
  · exact h true slot

theorem accUnmapped (dir : Dir) (low : BitVec 5) : Statement (.accUnmapped dir low) := by
  have h : ∀ (we : Bool) (low : BitVec 5), bitsOf (.ha (cmdOf we (0b1#1 ++ low) 0b00#2) 0#32) &&& 0x083 = 0x080 := by
    decide +kernel
  cases dir
  · exact h false low
  · exact h true low

theorem rdId : Statement .rdId := by
  unfold Statement; decide

theorem wrId (wdata : Word) : Statement (.wrId wdata) := by
  simp only [Statement, encode, writePacket, bitsOf, rowOf]; decide

theorem rdCtrl : Statement .rdCtrl := by
  unfold Statement; decide

theorem wrCtrl (wdata : Word) : Statement (.wrCtrl wdata) := by
  simp only [Statement, encode, writePacket, bitsOf, rowOf]; decide

theorem rdStatus : Statement .rdStatus := by
  unfold Statement; decide

theorem wrStatus (wdata : Word) : Statement (.wrStatus wdata) := by
  simp only [Statement, encode, writePacket, bitsOf, rowOf]; decide

theorem rdErrinfo : Statement .rdErrinfo := by
  unfold Statement; decide

theorem wrErrinfo (wdata : Word) : Statement (.wrErrinfo wdata) := by
  simp only [Statement, encode, writePacket, bitsOf, rowOf]; decide

theorem rdCounter : Statement .rdCounter := by
  unfold Statement; decide

theorem wrCounter (wdata : Word) : Statement (.wrCounter wdata) := by
  simp only [Statement, encode, writePacket, bitsOf, rowOf]; decide

theorem rdNonce0 : Statement .rdNonce0 := by
  unfold Statement; decide

theorem rdNonce1 : Statement .rdNonce1 := by
  unfold Statement; decide

theorem rdNonce2 : Statement .rdNonce2 := by
  unfold Statement; decide

theorem wrNonce0 (wdata : Word) : Statement (.wrNonce0 wdata) := by
  simp only [Statement, encode, writePacket, bitsOf, rowOf]; decide

theorem wrNonce1 (wdata : Word) : Statement (.wrNonce1 wdata) := by
  simp only [Statement, encode, writePacket, bitsOf, rowOf]; decide

theorem wrNonce2 (wdata : Word) : Statement (.wrNonce2 wdata) := by
  simp only [Statement, encode, writePacket, bitsOf, rowOf]; decide

theorem rdKey (i : Fin 8) : Statement (.rdKey i) := by
  revert i; unfold Statement; decide

theorem wrKey (i : Fin 8) (wdata : Word) : Statement (.wrKey i wdata) := by
  have h : ∀ i, Statement (.wrKey i 0#32) := by unfold Statement; decide
  exact h i

theorem rdOut (k : Fin 16) : Statement (.rdOut k) := by
  revert k; unfold Statement; decide

theorem wrOut (k : Fin 16) (wdata : Word) : Statement (.wrOut k wdata) := by
  have h : ∀ k, Statement (.wrOut k 0#32) := by unfold Statement; decide
  exact h k

theorem seqCol (rrrr : BitVec 4) : Statement (.seqCol rrrr) := by
  revert rrrr; unfold Statement; decide

theorem seqDiag (rrrr : BitVec 4) : Statement (.seqDiag rrrr) := by
  revert rrrr; unfold Statement; decide

theorem seqFinal (rrrrr : BitVec 5) : Statement (.seqFinal rrrrr) := by
  revert rrrrr; unfold Statement; decide

end Sys2Proof.Laws.EncodingFitsRow
end

