-- ==== Sys2Proof/Tests/Slice0.lean ====
section
/-! SUPPORT. Tests: well-formedness, one word written out from the spec's encoding for every constructor, one step per
instruction against the vectors of 95_test_vectors.md, and for each statement with hypotheses a state and operands
that meet them (witness_…). -/

set_option Elab.async false

namespace Sys2Proof.Tests

open Sys2Proof Sys2Proof.Machine

/-! ## Small states -/

/-- "busy" of 95_test_vectors.md section 8: reset, then a START. -/
def busyState : State := startBlock State.reset

/-- An error recorded: `RD @0x80` from reset (V-E3). -/
def errState : State := accessError .unmapped 0x80#8 false State.reset

/-- The sequencer at SEQ_FINAL of the block started at reset. -/
def finalState : State :=
  { busyState with x := roundTimes 20 busyState.s0, rnd := 20#5, phase := 0b10#2 }

/-- A state with the host's next command and its turn given. -/
def withHost (op : HostOp) (s : State) : State := { s with host := [op], turns := [.host] }

/-- The next state, where there is one. -/
def nextOf (o : Host.Outcome State Fault Refusal) : Option State :=
  match o with
  | .next t => some t
  | _ => none

/-- The response (rdata, err) of one access. -/
def reply (we : Bool) (addr : BitVec 8) (w : Word) (s : State) : Option (Word × Bool) :=
  (nextOf (access we addr w s)).map fun t => (t.rdata, t.errOut)

/-- STATUS and ERRINFO after one access. -/
def flagsAfter (we : Bool) (addr : BitVec 8) (w : Word) (s : State) : Option (Word × Word) :=
  (nextOf (access we addr w s)).map fun t => (statusWord t, errinfoWord t)

/-! ## Well-formedness: an ill-formed term for each check -/

theorem test_wf_refuses_seqCol_rnd20 : (Instr.seqCol 10#4).wf = false := by decide
theorem test_wf_refuses_seqDiag_rnd21 : (Instr.seqDiag 10#4).wf = false := by decide
theorem test_wf_refuses_seqFinal_rnd0 : (Instr.seqFinal 0#5).wf = false := by decide
theorem test_wf_accepts_boundaries :
    (Instr.seqCol 9#4).wf = true ∧ (Instr.seqDiag 9#4).wf = true ∧ (Instr.seqFinal 20#5).wf = true := by decide

/-! ## Decoding: words written out from 30_encoding.md R88 (`W AAAAAAAA`) and R84 (PHASE, RND) -/

theorem test_decode_misaligned01 : decodeTableWord 16 0b1_00000101 = some (.accMisaligned01 (.wr 0) 1) := by decide
theorem test_decode_misaligned10 : decodeTableWord 16 0b1_00000110 = some (.accMisaligned10 (.wr 0) 1) := by decide
theorem test_decode_misaligned11 : decodeTableWord 16 0b0_11111111 = some (.accMisaligned11 .rd 63) := by decide
theorem test_decode_unmapped : decodeTableWord 16 0b1_11111100 = some (.accUnmapped (.wr 0) 31) := by decide
theorem test_decode_rdId : decodeTableWord 16 0b0_00000000 = some .rdId := by decide
theorem test_decode_wrId : decodeTableWord 16 0b1_00000000 = some (.wrId 0) := by decide
theorem test_decode_rdCtrl : decodeTableWord 16 0b0_00000100 = some .rdCtrl := by decide
/-- With the operand word after the command: `WR CTRL, 3` (30_encoding.md R94, STARTI). -/
theorem test_decode_wrCtrl : decodeTableWord 48 0x0003_0104 = some (.wrCtrl 3) := by decide
theorem test_decode_rdStatus : decodeTableWord 16 0b0_00001000 = some .rdStatus := by decide
theorem test_decode_wrStatus : decodeTableWord 16 0b1_00001000 = some (.wrStatus 0) := by decide
theorem test_decode_rdErrinfo : decodeTableWord 16 0b0_00001100 = some .rdErrinfo := by decide
theorem test_decode_wrErrinfo : decodeTableWord 16 0b1_00001100 = some (.wrErrinfo 0) := by decide
theorem test_decode_rdCounter : decodeTableWord 16 0b0_00010000 = some .rdCounter := by decide
theorem test_decode_wrCounter : decodeTableWord 48 0xFFFFFFFF_0110 = some (.wrCounter 0xFFFFFFFF) := by decide
theorem test_decode_rdNonce0 : decodeTableWord 16 0b0_00010100 = some .rdNonce0 := by decide
theorem test_decode_rdNonce1 : decodeTableWord 16 0b0_00011000 = some .rdNonce1 := by decide
theorem test_decode_rdNonce2 : decodeTableWord 16 0b0_00011100 = some .rdNonce2 := by decide
theorem test_decode_wrNonce0 : decodeTableWord 16 0b1_00010100 = some (.wrNonce0 0) := by decide
theorem test_decode_wrNonce1 : decodeTableWord 48 0x4A000000_0118 = some (.wrNonce1 0x4A000000) := by decide
theorem test_decode_wrNonce2 : decodeTableWord 16 0b1_00011100 = some (.wrNonce2 0) := by decide
theorem test_decode_rdKey : decodeTableWord 16 0b0_00101100 = some (.rdKey 3) := by decide
theorem test_decode_wrKey : decodeTableWord 48 0x0F0E0D0C_012C = some (.wrKey 3 0x0F0E0D0C) := by decide
theorem test_decode_rdOut : decodeTableWord 16 0b0_01111100 = some (.rdOut 15) := by decide
theorem test_decode_wrOut : decodeTableWord 48 0xFFFFFFFF_014C = some (.wrOut 3 0xFFFFFFFF) := by decide
theorem test_decode_seqCol : decodeTableWord 8 0b01_10010 = some (.seqCol 9) := by decide
theorem test_decode_seqDiag : decodeTableWord 8 0b01_00001 = some (.seqDiag 0) := by decide
theorem test_decode_seqFinal : decodeTableWord 8 0b10_10100 = some (.seqFinal 20) := by decide
/-- PHASE = 11 is reserved (R84); a command has no bits 15:9 (R81). -/
theorem test_decode_rejects : decodeTableWord 8 0b11_00000 = none ∧ decodeTableWord 16 0x0200 = none := by decide

/-! ## One step on small states, results from 95_test_vectors.md and the rules' examples -/

/-- V-E1. -/
theorem test_misaligned01_read : flagsAfter false 0x41 0 State.reset = some (0x14, 0x41) := by decide
/-- V-E2. -/
theorem test_misaligned10_write : flagsAfter true 0x06 1 State.reset = some (0x14, 0x106) := by decide
/-- R160, from busy as V-E12 and V-E14: MISALIGNED comes before BUSY_WRITE. -/
theorem test_misaligned11_busy : flagsAfter true 0x23 0 busyState = some (0x15, 0x123) := by decide
/-- V-E4. -/
theorem test_unmapped_top_slot : flagsAfter true 0xFC 0x12345678 State.reset = some (0x24, 0x1FC) := by decide
/-- V-E5. -/
theorem test_wrId : flagsAfter true 0x00 0 State.reset = some (0x34, 0x100) := by decide
/-- V-E15: the second error is not recorded. -/
theorem test_wrId_second_error : flagsAfter true 0x00 0 errState = some (0x24, 0x80) := by decide
/-- V-E6. -/
theorem test_wrErrinfo : flagsAfter true 0x0C 0 State.reset = some (0x34, 0x10C) := by decide
/-- V-E7. -/
theorem test_wrOut15 : flagsAfter true 0x7C 0 State.reset = some (0x34, 0x17C) := by decide
/-- V-A1. -/
theorem test_rdId : reply false 0x00 0 busyState = some (0x4B534731, false) := by decide
/-- V-A3, V-A21: the two enables read back, START reads 0. -/
theorem test_rdCtrl : reply false 0x04 0 (setEnables true true busyState) = some (0x6, false) := by decide
/-- V-A7: STARTI. -/
theorem test_wrCtrl_starti :
    (nextOf (access true 0x04 3 State.reset)).map (fun t => (ctrlWord t, statusWord t, t.phase))
      = some (0x2, 0x1, 0b01) := by decide
/-- V-E11: a START while BUSY changes neither enable. -/
theorem test_wrCtrl_busy :
    (nextOf (access true 0x04 7 busyState)).map (fun t => (ctrlWord t, statusWord t, errinfoWord t))
      = some (0x0, 0x55, 0x104) := by decide
/-- V-E21: irq in STATUS. -/
theorem test_rdStatus : reply false 0x08 0 (setEnables false true errState) = some (0xA4, false) := by decide
/-- V-E16. -/
theorem test_wrStatus_clrerr : flagsAfter true 0x08 4 errState = some (0x0, 0x0) := by decide
/-- V-A11: no bit can be set and none is cleared. -/
theorem test_wrStatus_ignored :
    flagsAfter true 0x08 0xFFFFFFF9 { State.reset with done := true } = some (0x2, 0x0) := by decide
/-- The example of R106 with V-E13. -/
theorem test_rdErrinfo :
    reply false 0x0C 0 (accessError .misaligned 0x81 true State.reset) = some (0x181, false) := by decide
/-- V-A14. -/
theorem test_rdCounter : reply false 0x10 0 State.reset = some (1, false) := by decide
/-- V-A15. -/
theorem test_wrCounter :
    (nextOf (access true 0x10 0xFFFFFFFF State.reset)).map (·.counter) = some 0xFFFFFFFF := by decide
/-- V-E9. -/
theorem test_wrCounter_busy :
    (nextOf (access true 0x10 5 busyState)).map (fun t => (t.counter, statusWord t, errinfoWord t))
      = some (1, 0x45, 0x110) := by decide
theorem test_rdNonce0 : reply false 0x14 0 { State.reset with nonce := #v[7, 8, 9] } = some (7, false) := by decide
theorem test_rdNonce1 : reply false 0x18 0 { State.reset with nonce := #v[7, 8, 9] } = some (8, false) := by decide
theorem test_rdNonce2 : reply false 0x1C 0 { State.reset with nonce := #v[7, 8, 9] } = some (9, false) := by decide
theorem test_wrNonce0 : (nextOf (access true 0x14 5 State.reset)).map (·.nonce) = some #v[5, 0, 0] := by decide
/-- V-A16. -/
theorem test_wrNonce1 :
    (nextOf (access true 0x18 0x4A000000 State.reset)).map (·.nonce) = some #v[0, 0x4A000000, 0] := by decide
/-- V-E10. -/
theorem test_wrNonce2_busy :
    (nextOf (access true 0x1C 1 busyState)).map (fun t => (t.nonce, statusWord t, errinfoWord t))
      = some (#v[0, 0, 0], 0x45, 0x11C) := by decide
/-- V-A18: the key holds the word, and reads 0. -/
theorem test_wrKey3 :
    (nextOf (access true 0x2C 0x0F0E0D0C State.reset)).map (·.key)
      = some #v[0, 0, 0, 0x0F0E0D0C, 0, 0, 0, 0] := by decide
theorem test_rdKey3 : reply false 0x2C 0 (setKey 3 0x0F0E0D0C State.reset) = some (0, false) := by decide
/-- V-A20: the previous block while BUSY. -/
theorem test_rdOut15 :
    reply false 0x7C 0 { busyState with out := (Vector.replicate 16 0).set 15 9 } = some (9, false) := by decide

/-- The V-B1 initial state (95_test_vectors.md section 4). -/
def initB1 : Words16 :=
  #v[0x61707865, 0x3320646E, 0x79622D32, 0x6B206574, 0x03020100, 0x07060504, 0x0B0A0908, 0x0F0E0D0C,
     0x13121110, 0x17161514, 0x1B1A1918, 0x1F1E1D1C, 0x00000001, 0x09000000, 0x4A000000, 0x00000000]

/-- V-B1 after round 0 (section 4). -/
def round0B1 : Words16 :=
  #v[0xABBAA25C, 0x1EFA51EA, 0x7354FBDF, 0x83D2DC69, 0x3A465196, 0x1C7E64F6, 0xB12FB628, 0xF05B6976,
     0x6B3CA454, 0x08EB14B1, 0xBF8A9AC9, 0xE444DF3B, 0xDEC62ED2, 0x8862CC77, 0x6E35B345, 0x52A647F1]

/-- V-B1 after 20 rounds, before the feed-forward (section 5). -/
def round20B1 : Words16 :=
  #v[0x837778AB, 0xE238D763, 0xA67AE21E, 0x5950BB2F, 0xC4F2D0C7, 0xFC62BB2F, 0x8FA018FC, 0x3F5EC7B7,
     0x335271C2, 0xF29489F3, 0xEABDA8FC, 0x82E46EBD, 0xD19C12B4, 0xB04E16DE, 0x9E83D0CB, 0x4E3C50A2]

/-- V-B1's OUT (section 5). -/
def outB1 : Words16 :=
  #v[0xE4E7F110, 0x15593BD1, 0x1FDD0F50, 0xC47120A3, 0xC7F4D1C7, 0x0368C033, 0x9AAA2204, 0x4E6CD4C3,
     0x466482D2, 0x09AA9F07, 0x05D7C214, 0xA2028BD9, 0xD19C12B5, 0xB94E16DE, 0xE883D0CB, 0x4E3C50A2]

/-- V-B1 after its START (section 5), at a given place of the sequencer. -/
def stateB1 (x : Words16) (phase : BitVec 2) (rnd : BitVec 5) : State :=
  { State.reset with s0 := initB1, x := x, busy := true, phase := phase, rnd := rnd, turns := [.engine] }

/-- Section 4: `SEQ_COL` at RND = 0, fetched and run by one step. -/
theorem test_seqCol_B1 :
    (nextOf (step (stateB1 initB1 0b01 0))).map (fun t => (t.x, t.rnd)) = some (round0B1, 1) := by decide +kernel
/-- Section 4: `SEQ_DIAG` at RND = 1: word 0 is 0xCD52E917. -/
theorem test_seqDiag_B1 :
    (nextOf (step (stateB1 round0B1 0b01 1))).map (fun t => (t.x[0], t.rnd, t.phase)) = some (0xCD52E917, 2, 0b01) := by
  decide +kernel
/-- R145: at RND = 19 the sequencer goes to FINAL. -/
theorem test_seqDiag_last :
    (nextOf (step (stateB1 round0B1 0b01 19))).map (fun t => (t.rnd, t.phase)) = some (20, 0b10) := by decide +kernel
/-- V-B1: `SEQ_FINAL`. -/
theorem test_seqFinal_B1 :
    (nextOf (step (stateB1 round20B1 0b10 20))).map (fun t => (t.out, t.counter, statusWord t, t.phase))
      = some (outB1, 2, 2, 0b00) := by decide +kernel
/-- V-B1: `Complete()`, from any place of the sequencer. -/
theorem test_complete_B1 : (complete (stateB1 initB1 0b01 0)).out = outB1 := by decide +kernel
/-- Q1, the example of R132. -/
theorem test_qr_Q1 :
    qr 0 1 2 3 #v[0x11111111, 0x01020304, 0x9B8D6F43, 0x01234567, 0, 0, 0, 0, 0, 0, 0, 0, 0, 0, 0, 0]
      = #v[0xEA2A92F4, 0xCB1CF8CE, 0x4581472E, 0x5881C4BB, 0, 0, 0, 0, 0, 0, 0, 0, 0, 0, 0, 0] := by decide
/-- Section 2. -/
theorem test_rotl32 : rotl32 0xDEADBEEF 12 = 0xDBEEFDEA ∧ rotl32 0x80000001 16 = 0x00018000 := by decide
theorem test_le32 : le32 0x61 0x66 0x74 0x65 = 0x65746661 ∧ bytesLe32 0xE4E7F110 = [0x10, 0xF1, 0xE7, 0xE4] := by decide
/-- V-K, "abc" (the first and last bytes of the key). -/
theorem test_normKey_abc :
    (normKey [0x61, 0x62, 0x63]).map (fun k => (k.length, k[0]?, k[31]?)) = some (32, some 0x61, some 0x62) := by decide
/-- V-T6: an empty message uses no block. -/
theorem test_transform_empty : transform Config.sigma [] (Vector.replicate 8 0) (Vector.replicate 3 0) = [] := by decide
/-- V-T1: "HELLO" under the key "afternoon". -/
theorem test_transform_hello :
    transform Config.sigma [0x48, 0x45, 0x4C, 0x4C, 0x4F]
        #v[0x65746661, 0x6F6F6E72, 0x7466616E, 0x6F6E7265, 0x66616E6F, 0x6E726574, 0x616E6F6F, 0x72657466]
        #v[0x03020100, 0x07060504, 0x0B0A0908]
      = [0x98, 0x7A, 0xCA, 0xAD, 0x3F] := by decide +kernel
/-- V-O2: a clearing of DONE in the completion's edge does not lose it. -/
theorem test_same_edge_order : edgeTurns true true [.complete] = [.host, .complete] := by decide
/-- The pseudo-instruction words of 30_encoding.md R94. -/
theorem test_pseudo_words :
    opStartI = .access 0x104 3 ∧ opAck = .access 0x108 2 ∧ opClrErr = .access 0x108 4 ∧
    rdBlk[15]? = some (.access 0x07C 0) ∧ (ldKey (Vector.replicate 32 0))[7]? = some (.access 0x13C 0) := by decide
theorem test_window_offset :
    windowOffset 0x1000 0x1041 = some 0x41 ∧ windowOffset 0x1000 0x1100 = none := by decide
/-- A word placed where step fetches is run by the very next step (log 11). -/
theorem test_withFetchWord_access :
    (nextOf (step (State.reset.withFetchWord 16 0x181))).map (fun t => (statusWord t, errinfoWord t, t.host, t.turns))
      = some (0x14, 0x181, [], []) := by decide
theorem test_withFetchWord_seq :
    (nextOf (step (State.reset.withFetchWord 8 0b01_10011))).map (fun t => (t.rnd, t.phase)) = some (20, 0b10) := by
  decide +kernel
/-- R94: a POLL whose value is not there stays; from reset `POLL STATUS, 1, 0` ends at its first read (I14). -/
theorem test_poll_stays : (nextOf (step (withHost opWait busyState))).map (·.host) = some [opWait] := by decide
theorem test_wait_idle_ends : (nextOf (step (withHost opWait State.reset))).map (·.host) = some [] := by decide
/-- With nothing placed KSG waits (70_reset_and_hazards.md R193). -/
theorem test_reset_idles : nextOf (step State.reset) = some State.reset := by decide

/-! ## Witnesses: states and operands that meet the hypotheses of the statements -/

theorem witness_StepRuns_host :
    (withHost (.access 0x104 1) State.reset).turns = .host :: [] ∧
    (withHost (.access 0x104 1) State.reset).host = .access 0x104 1 :: [] ∧
    (decode (.ha 0x104 1)).toOption = some (.wrCtrl 1) := by decide
theorem witness_StepRuns_engine :
    (stateB1 initB1 0b01 0).turns = .engine :: [] ∧
    (decode (.seq ((stateB1 initB1 0b01 0).phase ++ (stateB1 initB1 0b01 0).rnd))).toOption = some (.seqCol 0) := by decide
theorem witness_StepRuns_poll :
    (withHost opWait State.reset).turns = .host :: [] ∧ (withHost opWait State.reset).host = .poll 8 1 0 :: [] ∧
    (decode (.ha (0#1 ++ 8#8) 0)).toOption = some .rdStatus ∧ (nextOf (exec .rdStatus State.reset)).isSome := by decide
theorem witness_StepRuns_default : State.reset.turns = [] := by decide
theorem witness_DecodeOfEncode : (Instr.seqDiag 9).wf = true ∧ (Instr.wrKey 7 0xFFFFFFFF).wf = true := by decide
theorem witness_EncodeOfDecode_seq : (decode (.seq 0b10_11111)).toOption = some (.seqFinal 31) := by decide
theorem witness_Misaligned : (0x01#8).extractLsb' 0 2 ≠ 0 ∧ (0xFF#8).extractLsb' 0 2 ≠ 0 := by decide
theorem witness_Unmapped :
    (0x80#8).extractLsb' 0 2 = 0 ∧ 0x80 ≤ (0x80#8).toNat ∧ (0xFC#8).extractLsb' 0 2 = 0 ∧ 0x80 ≤ (0xFC#8).toNat := by
  decide
theorem witness_FirstError : State.reset.err = false ∧ errState.err = true := by decide
theorem witness_AccessChecks_rejected :
    accessCause true 0x3C 0 true = some .busyWrite ∧ accessCause true 0x04 1 true = some .busyStart ∧
    accessCause true 0x40 0 false = some .readOnly := by decide
theorem witness_AccessChecks_accepted :
    accessCause true 0x3C 0 false = none ∧ accessCause false 0x7C 0 true = none ∧ accessCause true 0x04 2 true = none := by
  decide
theorem witness_RdStatus_edge :
    { State.reset with host := [.access 0x008 0], turns := [.host, .complete] }.turns
      = edgeTurns true true [.complete] ++ [] := by decide
theorem witness_RdStatus_example :
    (setEnables true false State.reset).doneIe = true ∧ (setEnables true false State.reset).err = false ∧
    (setEnables true false State.reset).ecode = 0 := by decide
theorem witness_RdErrinfo : ErrorOk State.reset ∧ State.reset.err = false := by decide
theorem witness_RdCounter : Inv busyState ∧ busyState.busy = true := by decide +kernel
theorem witness_RdKey : 0x020#9 &&& 0x1E3 = 0x020 ∧ 0x03C#9 &&& 0x1E3 = 0x020 := by decide
theorem witness_RdOut : 0x040#9 &&& 0x1C3 = 0x040 ∧ 0x07C#9 &&& 0x1C3 = 0x040 := by decide
theorem witness_WrCtrl :
    (2#32).getLsbD 0 = false ∧ (1#32).getLsbD 0 = true ∧ State.reset.busy = false ∧ busyState.busy = true := by decide
theorem witness_WrKey : 0x120#9 &&& 0x1E3 = 0x120 ∧ 0x13C#9 &&& 0x1E3 = 0x120 := by decide
/-- The hypotheses "not busy" and "busy" of the statements about WR_COUNTER, WR_NONCE, WR_KEY and RD_NONCE. -/
theorem witness_input_writes : State.reset.busy = false ∧ busyState.busy = true := by decide
theorem witness_SeqCol_first : PhaseOk busyState ∧ busyState.phase = 0b01 ∧ busyState.rnd.toNat % 2 = 0 := by decide
theorem witness_SeqCol_last :
    PhaseOk { busyState with rnd := 18 } ∧ { busyState with rnd := 18 }.phase = 0b01 ∧ (18#5).toNat % 2 = 0 := by decide
theorem witness_SeqDiag : { busyState with rnd := 19 }.rnd = 19 ∧ { busyState with rnd := 17 }.rnd ≠ 19 := by decide
theorem witness_Complete :
    { busyState with turns := [.complete] }.turns = .complete :: [] ∧ busyState.busy = true ∧ State.reset.busy = false := by
  decide
theorem witness_SeqFinalIsComplete : Inv finalState ∧ finalState.phase = 0b10 := by decide +kernel
theorem witness_SequencerComputesComplete :
    busyState.phase = 0b01 ∧ busyState.rnd = 0 ∧ busyState.x = busyState.s0 ∧ busyState.s0[0] = Config.sigma[0] ∧
    busyState.s0[1] = Config.sigma[1] ∧ busyState.s0[2] = Config.sigma[2] ∧ busyState.s0[3] = Config.sigma[3] := by decide
theorem witness_StartCompletes : [true] ≠ [] ∧ [false, true, true] ≠ [] ∧ busyState.busy = true := by decide
/-- The second clause, the completion by the 21st engine turn: a host turn before the first and before the last. -/
theorem witness_StartCompletes_engine :
    (1#32).getLsbD 0 = true ∧ State.reset.busy = false ∧
    (∀ u ∈ Turn.host :: List.replicate 20 .engine ++ [.host], u = Turn.host ∨ u = Turn.engine) ∧
    (Turn.host :: List.replicate 20 Turn.engine ++ [Turn.host]).count Turn.engine = 20 := by decide
/-- The second clause, the completion by its own turn: at once, and after all 20 rounds. -/
theorem witness_StartCompletes_complete :
    (0xFFFFFFFF#32).getLsbD 0 = true ∧ ([] : List Turn).count .engine ≤ 20 ∧
    (∀ u ∈ List.replicate 20 Turn.engine, u = Turn.host ∨ u = Turn.engine) ∧
    (List.replicate 20 Turn.engine).count .engine ≤ 20 := by decide
theorem witness_DefaultTurns : Inv busyState ∧ busyState.busy = true ∧ busyState.turns = [] := by decide +kernel
theorem witness_DefaultTurns_last : Inv finalState ∧ finalState.busy = true ∧ finalState.turns = [] := by decide +kernel
theorem witness_EngineWaits :
    { State.reset with turns := [.engine] }.turns = .engine :: [] ∧ State.reset.phase = 0b00 ∧
    { State.reset with phase := 0b11 }.phase = 0b11 := by decide
theorem witness_ResetLeaves : { busyState with turns := [.reset false] }.turns = .reset false :: [] := by decide
/-- Also for ResetKeepsTheResponseAndTheHost: a response and a program that the reset leaves. -/
theorem witness_ResetKeeps :
    { errState with host := [opStart], turns := [.reset false, .host] }.turns = .reset false :: [.host] ∧
    errState.errOut = true := by decide
theorem witness_AccessDuringReset : { busyState with turns := [.reset true] }.turns = .reset true :: [] := by decide
theorem witness_EveryStepKeeps : Inv State.reset ∧ (nextOf (step State.reset)).isSome := by decide +kernel
theorem witness_EveryStepKeeps_final :
    Inv { finalState with turns := [.engine] } ∧ (nextOf (step { finalState with turns := [.engine] })).isSome := by
  decide +kernel
theorem witness_BusyProtects :
    busyState.busy = true ∧ (0x10#8).extractLsb' 0 2 = 0 ∧ 0x10 ≤ (0x10#8).toNat ∧ (0x3C#8).extractLsb' 0 2 = 0 ∧
    (0x3C#8).toNat ≤ 0x3C ∧ (1#32).getLsbD 0 = true := by decide
theorem witness_OnlyACompletionChangesOut :
    (nextOf (step { busyState with turns := [.complete] })).map (fun t => decide (t.out ≠ busyState.out)) = some true := by
  decide +kernel
theorem witness_OnlyStartAndCompletion_rise :
    State.reset.busy = false ∧ (nextOf (step (withHost opStart State.reset))).map (·.busy) = some true := by decide
theorem witness_OnlyStartAndCompletion_fall :
    busyState.busy = true ∧ (nextOf (step { busyState with turns := [.complete] })).map (·.busy) = some false := by
  decide +kernel
theorem witness_ErrIsSticky_rise :
    State.reset.err = false ∧ (nextOf (step (withHost (opRd 0x80) State.reset))).map (·.err) = some true := by decide
theorem witness_ErrIsSticky_fall :
    errState.err = true ∧ (nextOf (step (withHost opClrErr errState))).map (·.err) = some false := by decide
/-- With an error pending and its source enabled (word 7), and with it masked (word 3). -/
theorem witness_CompletionInterrupt :
    (7#32).getLsbD 0 = true ∧ (7#32).getLsbD 1 = true ∧ (3#32).getLsbD 0 = true ∧ (3#32).getLsbD 1 = true ∧
    errState.busy = false ∧ (errState.err && (7#32).getLsbD 2) = true ∧ (errState.err && (3#32).getLsbD 2) = false := by
  decide
theorem witness_ErrorInterrupt :
    (setEnables false true State.reset).errIe = true ∧ (setEnables false true State.reset).err = false ∧
    accessCause false 0x80 0 (setEnables false true State.reset).busy = some .unmapped := by decide
theorem witness_SameEdgeOrder_clear :
    { busyState with host := [.access 0x108 2], turns := [.host, .complete] }.turns
      = edgeTurns true true [.complete] ++ [] ∧ busyState.busy = true := by decide
theorem witness_SameEdgeOrder_rejected :
    { busyState with host := [.access 0x104 1], turns := [.host, .complete] }.busy = true ∧ (1#32).getLsbD 0 = true ∧
    accessCause ((0x110#9).getLsbD 8) ((0x110#9).extractLsb' 0 8) 9 true ≠ none := by decide
theorem witness_QuarterRound :
    (0 : Fin 16) ≠ 4 ∧ (0 : Fin 16) ≠ 8 ∧ (0 : Fin 16) ≠ 12 ∧ (4 : Fin 16) ≠ 8 ∧ (4 : Fin 16) ≠ 12 ∧ (8 : Fin 16) ≠ 12 := by
  decide
theorem witness_RoundOrder :
    columnGroups.reverse.Perm columnGroups ∧ diagonalGroups.reverse.Perm diagonalGroups := by decide
theorem witness_Rotl32 : 1 ≤ 31 ∧ 31 ≤ 31 ∧ 31 < 32 ∧ (rotl32 0x80000000 31).getLsbD 30 = true := by decide
theorem witness_NormKey : [0x61#8] ≠ [] ∧ 31 < 32 := by decide
theorem witness_InstancesShareNoState :
    [State.reset, withHost opStart State.reset][1]? = some (withHost opStart State.reset) ∧
    (nextOf (step (withHost opStart State.reset))).isSome ∧
    ∃ q, platformStep 1 [State.reset, withHost opStart State.reset] = .next q := ⟨rfl, by decide, _, rfl⟩
theorem witness_InstancesShareNoState_stops :
    step { State.reset with turns := [.engine], phase := 0b11 } = .fault .phaseUnused ∧
    step { State.reset with turns := [.reset true] } = .refused .accessDuringReset := ⟨rfl, rfl⟩
theorem witness_InstancesShareNoState_run :
    ∃ q, platformRun [1, 0, 1] [State.reset, withHost opStart State.reset] = .next q := ⟨_, rfl⟩
theorem witness_InstancesShareNoState_id :
    (withHost (opRd 0x00) errState).turns = .host :: [] ∧
    (withHost (opRd 0x00) errState).host = .access 0x000 0 :: [] := by decide

end Sys2Proof.Tests
end

section
/-! Proofs about the interrupt level (10_state.md R42). -/

namespace Sys2Proof.Machine

/-- The two sources of R42: a pending completion or a pending error, each under its own enable. -/
theorem irq_eq_true_iff (s : State) :
    irq s = true ↔ (s.done = true ∧ s.doneIe = true) ∨ (s.err = true ∧ s.errIe = true) := by
  simp only [irq, Bool.or_eq_true, Bool.and_eq_true]

/-- With nothing pending, the enables do not matter. -/
theorem irq_eq_false_of_none_pending {s : State} (hdone : s.done = false) (herr : s.err = false) :
    irq s = false := by
  rw [Bool.eq_false_iff, ne_eq, irq_eq_true_iff]
  rintro (⟨hpending, -⟩ | ⟨hpending, -⟩)
  · simp [hdone] at hpending
  · simp [herr] at hpending

/-- Settles O44: the sources of irq are R42's, and reset leaves neither DONE nor ERR pending. -/
theorem irqIsTheEnabledPendingBits : Obligations.IrqIsTheEnabledPendingBits :=
  ⟨irq_eq_true_iff, irq_eq_false_of_none_pending (s := State.reset) rfl rfl⟩

end Sys2Proof.Machine
end

section
/-! Proofs about the byte order of words and blocks (00_scope.md R11, 20_memory.md R63 to R65) and about misaligned
accesses (20_memory.md R68). -/

namespace Sys2Proof.Machine

/-! ### Bytes of words -/

theorem extractLsb'_zero_append_byte {n : Nat} (hi : BitVec n) (b : Byte) : (hi ++ b).extractLsb' 0 8 = b :=
  (BitVec.extractLsb'_append_eq_of_add_le (by decide)).trans BitVec.extractLsb'_eq_self

theorem extractLsb'_succ_append_byte {n : Nat} (m : Nat) (hi : BitVec n) (b : Byte) :
    (hi ++ b).extractLsb' (8 * (m + 1)) 8 = hi.extractLsb' (8 * m) 8 := by
  rw [BitVec.extractLsb'_append_eq_of_le (by omega)]
  rfl

/-- R11 read backwards: in the word of the four bytes of `v` from 4i on, byte m is byte 4i + m of `v`. -/
theorem extractLsb'_le32_getElem {n : Nat} (v : Vector Byte n) (i : Nat) (h : 4 * i + 3 < n) (m : Fin 4) :
    (le32 v[4 * i] v[4 * i + 1] v[4 * i + 2] v[4 * i + 3]).extractLsb' (8 * m.val) 8 = v[4 * i + m.val] := by
  match m with
  | 0 => exact extractLsb'_zero_append_byte _ _
  | 1 => exact (extractLsb'_succ_append_byte 0 _ _).trans (extractLsb'_zero_append_byte _ _)
  | 2 =>
    exact (extractLsb'_succ_append_byte 1 _ _).trans
      ((extractLsb'_succ_append_byte 0 _ _).trans (extractLsb'_zero_append_byte _ _))
  | 3 =>
    exact (extractLsb'_succ_append_byte 2 _ _).trans
      ((extractLsb'_succ_append_byte 1 _ _).trans
        ((extractLsb'_succ_append_byte 0 _ _).trans BitVec.extractLsb'_eq_self))

theorem keyOfBytes_getElem (key : Vector Byte 32) (i : Fin 8) : (keyOfBytes key)[i] = keyWordOf key i :=
  match i with
  | 0 | 1 | 2 | 3 | 4 | 5 | 6 | 7 => rfl

theorem nonceOfBytes_getElem (nonce : Vector Byte 12) (j : Fin 3) : (nonceOfBytes nonce)[j] = nonceWordOf nonce j :=
  match j with
  | 0 | 1 | 2 => rfl

/-- Settles O57, from the bytes of one word. -/
theorem keyAndNonceWordsAreLittleEndian : Obligations.KeyAndNonceWordsAreLittleEndian := by
  constructor
  · intro key i m
    rw [keyOfBytes_getElem]
    exact extractLsb'_le32_getElem key i (by omega) m
  · intro nonce j m
    rw [nonceOfBytes_getElem]
    exact extractLsb'_le32_getElem nonce j (by omega) m

/-! ### Bytes of blocks -/

@[simp] theorem length_bytesLe32 (w : Word) : (bytesLe32 w).length = 4 := rfl

theorem bytesLe32_getElem? (w : Word) (m : Fin 4) : (bytesLe32 w)[m.val]? = some (w.extractLsb' (8 * m.val) 8) :=
  match m with
  | 0 | 1 | 2 | 3 => rfl

theorem length_flatMap_bytesLe32 (ws : List Word) : (ws.flatMap bytesLe32).length = 4 * ws.length := by
  induction ws with
  | nil => rfl
  | cons w ws ih =>
    rw [List.flatMap_cons, List.length_append, length_bytesLe32, ih, List.length_cons]
    omega

/-- Each word takes four bytes, so byte 4k + m of the words in order is byte m of word k. -/
theorem flatMap_bytesLe32_getElem? (ws : List Word) (k : Nat) (m : Fin 4) :
    (ws.flatMap bytesLe32)[4 * k + m.val]? = ws[k]?.map (·.extractLsb' (8 * m.val) 8) := by
  induction ws generalizing k with
  | nil => simp
  | cons w ws ih =>
    rw [List.flatMap_cons]
    cases k with
    | zero =>
      rw [Nat.mul_zero, Nat.zero_add, List.getElem?_append_left (by simp), bytesLe32_getElem?]
      rfl
    | succ k =>
      have hpos : 4 * (k + 1) + m.val - (bytesLe32 w).length = 4 * k + m.val := by rw [length_bytesLe32]; omega
      rw [List.getElem?_append_right (by rw [length_bytesLe32]; omega), hpos, ih, List.getElem?_cons_succ]

/-- Settles O56, by induction over the words serialised. -/
theorem serialisationIsLittleEndian : Obligations.SerialisationIsLittleEndian := by
  intro y
  constructor
  · rw [serialise, length_flatMap_bytesLe32, Vector.length_toList]
  · intro k m
    have hword : y.toList[k.val]? = some y[k] := by simp
    rw [serialise, flatMap_bytesLe32_getElem?, hword, Option.map_some]

/-! ### Fields of a command -/

theorem and_three_eq_low (cmd : BitVec 9) : cmd &&& 3#9 = (cmd.extractLsb' 0 2).setWidth 9 := by
  have hlow : cmd.toNat % 4 % 512 = cmd.toNat % 4 := Nat.mod_eq_of_lt (by omega)
  apply BitVec.eq_of_toNat_eq
  simpa [hlow] using Nat.and_two_pow_sub_one_eq_mod cmd.toNat 2

theorem extractLsb'_low_access (we : Bool) (addr : BitVec 8) :
    (BitVec.ofBool we ++ addr).extractLsb' 0 2 = addr.extractLsb' 0 2 :=
  BitVec.extractLsb'_append_eq_of_add_le (by decide)

/-- The direction decoded from a command is the one it was sent with. -/
theorem isWrite_dirOf_access (we : Bool) (addr : BitVec 8) (w : Word) :
    isWrite (dirOf (BitVec.ofBool we ++ addr) w) = we := by
  have hbit : (BitVec.ofBool we ++ addr).getLsbD 8 = we := by
    rw [BitVec.getLsbD_append]
    simp
  rw [dirOf, hbit]
  cases we <;> rfl

/-- Slot and low bits decoded from a command make up the address it was sent with. -/
theorem slotOf_append_low_access (we : Bool) (addr : BitVec 8) :
    slotOf (BitVec.ofBool we ++ addr) ++ addr.extractLsb' 0 2 = addr := by
  have hslot : slotOf (BitVec.ofBool we ++ addr) = addr.extractLsb' 2 6 :=
    BitVec.extractLsb'_append_eq_of_add_le (by decide)
  rw [hslot]
  exact (BitVec.extractLsb'_append_extractLsb'_eq_extractLsb' (by decide)).trans BitVec.extractLsb'_eq_self

/-! ### Misaligned accesses -/

theorem exec_accMisaligned01 (dir : Dir) (slot : BitVec 6) (s : State) :
    exec (.accMisaligned01 dir slot) s = .next (rejected 1#3 (slot ++ 0b01#2) (isWrite dir) s) :=
  congrArg Host.Outcome.next (accessError_eq .misaligned (byteAddr slot 0b01#2) (isWrite dir) s)

theorem exec_accMisaligned10 (dir : Dir) (slot : BitVec 6) (s : State) :
    exec (.accMisaligned10 dir slot) s = .next (rejected 1#3 (slot ++ 0b10#2) (isWrite dir) s) :=
  congrArg Host.Outcome.next (accessError_eq .misaligned (byteAddr slot 0b10#2) (isWrite dir) s)

theorem exec_accMisaligned11 (dir : Dir) (slot : BitVec 6) (s : State) :
    exec (.accMisaligned11 dir slot) s = .next (rejected 1#3 (slot ++ 0b11#2) (isWrite dir) s) :=
  congrArg Host.Outcome.next (accessError_eq .misaligned (byteAddr slot 0b11#2) (isWrite dir) s)

/-- The rows of ACC_MISALIGNED come first and look at the two low bits only, so a command with low bits other than 00
runs one of the three, and is rejected with the address its slot and low bits make. -/
theorem runPacket_misaligned {cmd : BitVec 9} (w : Word) (s : State) (h : cmd.extractLsb' 0 2 ≠ 0#2) :
    runPacket (.ha cmd w) s =
      .next (rejected 1#3 (slotOf cmd ++ cmd.extractLsb' 0 2) (isWrite (dirOf cmd w)) s) := by
  have hlow := and_three_eq_low cmd
  generalize cmd.extractLsb' 0 2 = low at h hlow ⊢
  match low, h with
  | 0b01#2, _ =>
    have hrow : decode (.ha cmd w) = .ok (.accMisaligned01 (dirOf cmd w) (slotOf cmd)) := by
      simp [decode, decodeHa, haRows, HaRow.selects, hlow]
    rw [runPacket_of_decode hrow, exec_accMisaligned01]
  | 0b10#2, _ =>
    have hrow : decode (.ha cmd w) = .ok (.accMisaligned10 (dirOf cmd w) (slotOf cmd)) := by
      simp [decode, decodeHa, haRows, HaRow.selects, hlow]
    rw [runPacket_of_decode hrow, exec_accMisaligned10]
  | 0b11#2, _ =>
    have hrow : decode (.ha cmd w) = .ok (.accMisaligned11 (dirOf cmd w) (slotOf cmd)) := by
      simp [decode, decodeHa, haRows, HaRow.selects, hlow]
    rw [runPacket_of_decode hrow, exec_accMisaligned11]

theorem access_misaligned (we : Bool) {addr : BitVec 8} (w : Word) (s : State) (h : addr.extractLsb' 0 2 ≠ 0#2) :
    access we addr w s = .next (rejected 1#3 addr we s) := by
  have hlow := extractLsb'_low_access we addr
  rw [access, accessPacket, runPacket_misaligned w s (hlow ▸ h), hlow, slotOf_append_low_access,
    isWrite_dirOf_access]

/-- Settles O6: the decoder sends every misaligned access to a row of ACC_MISALIGNED, whose meaning is the rejection. -/
theorem misalignedAccessIsRejected : Obligations.MisalignedAccessIsRejected :=
  ⟨fun we _ w s h => access_misaligned we w s h, fun dir slot s =>
    ⟨exec_accMisaligned01 dir slot s, exec_accMisaligned10 dir slot s, exec_accMisaligned11 dir slot s⟩⟩

end Sys2Proof.Machine
end

section
/-! Proofs about the commands of the host (40_host_commands.md): the row a command selects, and the accepted reads. -/

namespace Sys2Proof.Machine

/-! ### The row a command selects -/

/-- Where the masks of both rows look, their matches differ. -/
def RowsDisjoint (r r' : HaRow) : Prop := r.mtch &&& r'.mask ≠ r'.mtch &&& r.mask

theorem not_selects_of_rowsDisjoint {r r' : HaRow} (h : RowsDisjoint r r') {cmd : BitVec 9}
    (hsel : r.selects cmd = true) : ¬ r'.selects cmd = true := by
  intro hsel'
  simp only [HaRow.selects, beq_iff_eq] at hsel hsel'
  refine h ?_
  calc r.mtch &&& r'.mask
      = cmd &&& (r.mask &&& r'.mask) := by rw [← hsel, BitVec.and_assoc]
    _ = cmd &&& (r'.mask &&& r.mask) := by rw [BitVec.and_comm r.mask]
    _ = r'.mtch &&& r.mask := by rw [← hsel', BitVec.and_assoc]

theorem haRows_pairwise_rowsDisjoint : haRows.Pairwise RowsDisjoint := by
  unfold RowsDisjoint
  decide

/-- The rows' order does not matter: a command decodes by whichever row selects it. -/
theorem decode_of_selects {r : HaRow} (hr : r ∈ haRows) {cmd : BitVec 9} (hsel : r.selects cmd = true) (w : Word) :
    decode (.ha cmd w) = .ok (r.read cmd w) := by
  obtain ⟨first, hfind⟩ := Option.isSome_iff_exists.mp (haRows_cover cmd)
  have hfirst : first.selects cmd = true := List.find?_some (p := fun row : HaRow => row.selects cmd) hfind
  have hsymm : Std.Symm RowsDisjoint := ⟨fun _ _ h => h.symm⟩
  have hrow : first = r := by
    by_contra hne
    have hdisjoint := haRows_pairwise_rowsDisjoint.forall (List.mem_of_find?_eq_some hfind) hr hne
    exact not_selects_of_rowsDisjoint hdisjoint hfirst hsel
  simp [decode, decodeHa, hfind, hrow]

/-! ### The words of CTRL, STATUS and ERRINFO -/

theorem getLsbD_setWidth_of_ge {n m i : Nat} (x : BitVec n) (h : n ≤ i) : (x.setWidth m).getLsbD i = false := by
  rw [BitVec.getLsbD_setWidth, BitVec.getLsbD_of_ge x i h, Bool.and_false]

theorem ctrlWord_getLsbD (s : State) :
    (ctrlWord s).getLsbD 0 = false ∧ (ctrlWord s).getLsbD 1 = s.doneIe ∧ (ctrlWord s).getLsbD 2 = s.errIe := by
  simp only [ctrlWord, BitVec.getLsbD_setWidth, BitVec.getLsbD_append]
  simp

theorem statusWord_getLsbD (s : State) :
    (statusWord s).getLsbD 0 = s.busy ∧ (statusWord s).getLsbD 1 = s.done ∧ (statusWord s).getLsbD 2 = s.err ∧
    (statusWord s).getLsbD 3 = false ∧ (statusWord s).getLsbD 7 = irq s := by
  simp only [statusWord, BitVec.getLsbD_setWidth, BitVec.getLsbD_append]
  simp

theorem statusWord_extractLsb'_ecode (s : State) : (statusWord s).extractLsb' 4 3 = s.ecode := by
  rw [statusWord, BitVec.extractLsb'_setWidth_of_le (by decide), BitVec.extractLsb'_append_eq_of_le (by decide),
    BitVec.extractLsb'_append_eq_of_le (by decide), BitVec.extractLsb'_append_eq_of_le (by decide),
    BitVec.extractLsb'_append_eq_of_le (by decide), BitVec.extractLsb'_append_eq_right]

theorem errinfoWord_extractLsb'_eaddr (s : State) : (errinfoWord s).extractLsb' 0 8 = s.eaddr := by
  rw [errinfoWord, BitVec.extractLsb'_setWidth_of_le (by decide), BitVec.extractLsb'_append_eq_right]

theorem errinfoWord_getLsbD_ewe (s : State) : (errinfoWord s).getLsbD 8 = s.ewe := by
  simp only [errinfoWord, BitVec.getLsbD_setWidth, BitVec.getLsbD_append]
  simp

/-! ### What the commands do

An accepted read answers its word; a write of an input register is the guarded write; a write of CTRL has the cases of
R103. -/

theorem exec_read_of_eq {i : Instr} {s : State} {u v : Word} (hread : exec i s = .next (acceptRead u s)) (h : u = v) :
    exec i s = .next { s with rdata := v, errOut := false } :=
  h ▸ hread

theorem exec_rdCtrl (s : State) : exec .rdCtrl s = .next (acceptRead (ctrlWord s) s) := rfl
theorem exec_rdStatus (s : State) : exec .rdStatus s = .next (acceptRead (statusWord s) s) := rfl
theorem exec_rdErrinfo (s : State) : exec .rdErrinfo s = .next (acceptRead (errinfoWord s) s) := rfl
theorem exec_rdCounter (s : State) : exec .rdCounter s = .next (acceptRead s.counter s) := rfl
theorem exec_rdNonce1 (s : State) : exec .rdNonce1 s = .next (acceptRead s.nonce[1] s) := rfl

theorem guardedWrite_of_idle {s : State} (h : s.busy = false) (addr : BitVec 8) (f : State → State) :
    guardedWrite addr f s = acceptWrite (f s) := by
  simp [guardedWrite, h]

theorem guardedWrite_of_busy {s : State} (h : s.busy = true) (addr : BitVec 8) (f : State → State) :
    guardedWrite addr f s = rejected 4#3 addr true s := by
  simp [guardedWrite, h, accessError_eq, causeCode]

theorem exec_wrCounter (w : Word) (s : State) :
    exec (.wrCounter w) s = .next (guardedWrite counterAddr (setCounter w) s) := rfl
theorem exec_wrNonce0 (w : Word) (s : State) :
    exec (.wrNonce0 w) s = .next (guardedWrite (nonceAddr 0) (setNonce 0 w) s) := rfl
theorem exec_wrNonce1 (w : Word) (s : State) :
    exec (.wrNonce1 w) s = .next (guardedWrite (nonceAddr 1) (setNonce 1 w) s) := rfl
theorem exec_wrNonce2 (w : Word) (s : State) :
    exec (.wrNonce2 w) s = .next (guardedWrite (nonceAddr 2) (setNonce 2 w) s) := rfl
theorem exec_wrKey (i : Fin 8) (w : Word) (s : State) :
    exec (.wrKey i w) s = .next (guardedWrite (keyAddr i) (setKey i w) s) := rfl

theorem exec_wrCtrl_of_no_start {w : Word} (h : startField w = false) (s : State) :
    exec (.wrCtrl w) s = .next (acceptWrite (setEnables (doneIeField w) (errIeField w) s)) := by
  simp [exec, execWrCtrl, h]

theorem exec_wrCtrl_of_start {w : Word} (h : startField w = true) {s : State} (hidle : s.busy = false) :
    exec (.wrCtrl w) s =
      .next (acceptWrite (startBlock (setEnables (doneIeField w) (errIeField w) s))) := by
  simp [exec, execWrCtrl, h, hidle]

theorem exec_wrCtrl_of_start_of_busy {w : Word} (h : startField w = true) {s : State} (hbusy : s.busy = true) :
    exec (.wrCtrl w) s = .next (rejected 5#3 ctrlAddr true s) := by
  simp [exec, execWrCtrl, h, hbusy, accessError_eq, causeCode]

/-! ### The reads -/

/-- Settles O12: the constant of R101 does not come from the state. -/
theorem rdIdReturnsTheConstant : Obligations.RdIdReturnsTheConstant :=
  fun _ _ => ⟨rfl, rfl⟩

/-- Settles O13, from the bits of CTRL's word. -/
theorem rdCtrlReturnsTheEnables : Obligations.RdCtrlReturnsTheEnables := by
  constructor
  · intro w s
    obtain ⟨hstart, hdoneIe, herrIe⟩ := ctrlWord_getLsbD s
    exact ⟨rfl, ctrlWord s, exec_rdCtrl s, hstart, hdoneIe, herrIe, fun n hn => getLsbD_setWidth_of_ge _ hn⟩
  · intro s
    have hword : ctrlWord (acceptWrite (setEnables true true s)) = 6#32 := by simp [ctrlWord]
    refine ⟨_, exec_wrCtrl_of_no_start (by decide) s, ?_⟩
    exact exec_read_of_eq (exec_rdCtrl _) hword

theorem runSteps_succ_of_next {s t : State} (h : step s = .next t) (n : Nat) :
    runSteps (n + 1) s = runSteps n t := by
  rw [Nat.add_comm]
  refine runSteps_add 1 n ?_
  rcases runSteps_succ 0 s with ⟨u, hu, e⟩ | ⟨r, hr, _⟩ | ⟨r, hr, _⟩
  · rw [e, Host.Outcome.next.inj (h.symm.trans hu)]
    rfl
  · cases h.symm.trans hr
  · cases h.symm.trans hr

theorem step_read_status {s : State} {w : Word} {rest : List HostOp} {ts : List Turn}
    (hhost : s.host = .access 0x008#9 w :: rest) (hturns : s.turns = .host :: ts) :
    step s = .next (acceptRead (statusWord s) { s with turns := ts, host := rest }) := by
  simp only [step, hturns, takeTurn, hostMove, hhost]
  rfl

theorem step_complete {s : State} {ts : List Turn} (hturns : s.turns = .complete :: ts) :
    ∃ t, step s = .next t ∧ t.rdata = s.rdata := by
  simp only [step, hturns, takeTurn, completeMove]
  cases s.busy
  · exact ⟨_, rfl, rfl⟩
  · exact ⟨_, rfl, rfl⟩

/-- The edge of a completion: the access is ordered before it (20_memory.md R73), so the word read is the one from
before, and the completion leaves it on the port. -/
theorem runSteps_status_edge {s : State} {w : Word} {rest : List HostOp} {ts : List Turn}
    (hhost : s.host = .access 0x008#9 w :: rest) (hturns : s.turns = edgeTurns true true [.complete] ++ ts) :
    ∃ t, runSteps 2 s = .next t ∧ t.rdata = statusWord s := by
  have hread := step_read_status (ts := .complete :: ts) hhost hturns
  obtain ⟨t, hcomplete, hrdata⟩ :=
    step_complete (s := acceptRead (statusWord s) { s with turns := .complete :: ts, host := rest }) rfl
  refine ⟨t, ?_, hrdata⟩
  rw [runSteps_succ_of_next hread, runSteps_succ_of_next hcomplete]
  rfl

/-- Settles O14, from the bits of STATUS's word and the order within a completion's edge. -/
theorem rdStatusReturnsTheFlags : Obligations.RdStatusReturnsTheFlags := by
  constructor
  · intro w s
    obtain ⟨hbusy, hdone, herr, hzero, hirq⟩ := statusWord_getLsbD s
    exact ⟨rfl, statusWord s, exec_rdStatus s, hbusy, hdone, herr, hzero, statusWord_extractLsb'_ecode s, hirq,
      fun n hn => getLsbD_setWidth_of_ge _ hn, fun ts rest => runSteps_status_edge⟩
  · intro s hdoneIe herr hecode
    have hword : statusWord (complete s) = 0x82#32 := by simp [statusWord, irq, hdoneIe, herr, hecode]
    exact exec_read_of_eq (exec_rdStatus _) hword

/-- Settles O15, from the fields of ERRINFO's word. -/
theorem rdErrinfoReturnsTheRecord : Obligations.RdErrinfoReturnsTheRecord := by
  constructor
  · intro w s
    refine ⟨rfl, errinfoWord s, exec_rdErrinfo s, errinfoWord_extractLsb'_eaddr s, errinfoWord_getLsbD_ewe s,
      fun n hn => getLsbD_setWidth_of_ge _ hn, ?_⟩
    rintro ⟨hclear, -⟩ herr
    obtain ⟨-, headdr, hewe⟩ := hclear herr
    simp [errinfoWord, headdr, hewe]
  · intro s herr
    have hword : errinfoWord (rejected 1#3 0x81#8 true s) = 0x181#32 := by simp [errinfoWord, herr]
    exact ⟨_, access_misaligned true 5#32 s (by decide), exec_read_of_eq (exec_rdErrinfo _) hword⟩

/-- While BUSY no input register has changed since the START, so COUNTER is the counter it latched. -/
theorem counter_eq_of_busy {s : State} (hinv : Inv s) (hbusy : s.busy = true) : s.counter = s.s0[12] := by
  obtain ⟨-, -, -, hlatch, -, -⟩ := hinv
  rw [hlatch hbusy]
  rfl

/-- Settles O16: the completion publishes the latched counter plus 1. -/
theorem rdCounterReturnsTheCounter : Obligations.RdCounterReturnsTheCounter := by
  refine ⟨fun w s => ⟨rfl, exec_rdCounter s, fun hinv hbusy => ?_⟩, rfl⟩
  have hcounter := counter_eq_of_busy hinv hbusy
  have hnext : (complete s).counter = s.counter + 1#32 := by rw [complete_counter, add32, hcounter]
  exact ⟨hcounter, exec_read_of_eq (exec_rdCounter _) hnext⟩

/-- Settles O17: three rows and their reads; the example writes the word it reads. -/
theorem rdNonceReturnsTheWord : Obligations.RdNonceReturnsTheWord := by
  refine ⟨fun w s => ⟨rfl, rfl, rfl, rfl, rfl, rfl⟩, fun s hidle => ?_⟩
  refine ⟨acceptWrite (setNonce 1 0x4A000000#32 s), ?_, ?_⟩
  · rw [exec_wrNonce1, guardedWrite_of_idle hidle]
  · have hword : (acceptWrite (setNonce 1 0x4A000000#32 s)).nonce[1] = 0x4A000000#32 := by simp
    exact exec_read_of_eq (exec_rdNonce1 _) hword

/-- Settles O18: the row of RD_KEY takes its index from the command, and its meaning reads no key word. -/
theorem rdKeyReturnsZero : Obligations.RdKeyReturnsZero := by
  refine ⟨fun cmd w hcmd => ⟨keyIndexOf cmd, rfl, ?_⟩, fun i s => rfl⟩
  exact decode_of_selects (r := ⟨0x020#9, 0x1E3#9, fun c _ => .rdKey (keyIndexOf c)⟩) (by simp [haRows])
    (by simp [HaRow.selects, hcmd]) w

end Sys2Proof.Machine
end

section
/-! Proofs about the writes of CTRL, STATUS and the input registers (40_host_commands.md). -/

namespace Sys2Proof.Machine

/-- Settles O20: the three cases of R103. -/
theorem wrCtrlWritesEnablesAndStarts : Obligations.WrCtrlWritesEnablesAndStarts :=
  fun _ s => ⟨rfl, fun hstart => exec_wrCtrl_of_no_start hstart s,
    fun hstart hidle => exec_wrCtrl_of_start hstart hidle,
    fun hstart hbusy => exec_wrCtrl_of_start_of_busy hstart hbusy⟩

theorem ite_clearDone (b : Bool) (s : State) :
    (if b then clearDone s else s) = { s with done := if b then false else s.done } := by
  cases b <;> rfl

theorem ite_clearError (b : Bool) (s : State) :
    (if b then clearError s else s) =
      { s with
        err := if b then false else s.err
        ecode := if b then 0#3 else s.ecode
        eaddr := if b then 0#8 else s.eaddr
        ewe := if b then false else s.ewe } := by
  cases b <;> rfl

/-- Settles O21: each of the two bits clears its own fields. -/
theorem wrStatusClearsWhatItNames : Obligations.WrStatusClearsWhatItNames := by
  intro w s
  refine ⟨rfl, ?_⟩
  simp only [exec, execWrStatus, ite_clearDone, ite_clearError]
  rfl

/-- Settles O22: the guarded write; the example's counter wraps when the block it started completes. -/
theorem wrCounterSetsTheCounter : Obligations.WrCounterSetsTheCounter := by
  constructor
  · intro w s
    refine ⟨rfl, fun hidle => ?_, fun hbusy => ?_⟩
    · rw [exec_wrCounter, guardedWrite_of_idle hidle]
      rfl
    · rw [exec_wrCounter, guardedWrite_of_busy hbusy]
      rfl
  · intro s hidle
    refine ⟨acceptWrite (setCounter 0xFFFFFFFF#32 s), _, ?_, exec_wrCtrl_of_start (by decide) hidle, ?_⟩
    · rw [exec_wrCounter, guardedWrite_of_idle hidle]
    · simp [latchedInputs, initState, add32]

theorem set_nonce_words (v : Vector Word 3) (w : Word) :
    v.set 0 w = #v[w, v[1], v[2]] ∧ v.set 1 w = #v[v[0], w, v[2]] ∧ v.set 2 w = #v[v[0], v[1], w] := by
  refine ⟨?_, ?_, ?_⟩ <;> ext j hj <;> match j, hj with | 0, _ | 1, _ | 2, _ => simp

/-- Settles O23: each row of WR_NONCE is the guarded write of its own word. -/
theorem wrNonceSetsTheWord : Obligations.WrNonceSetsTheWord := by
  intro w s
  obtain ⟨hset0, hset1, hset2⟩ := set_nonce_words s.nonce w
  refine ⟨rfl, rfl, rfl, fun hidle => ?_, fun hbusy => ?_⟩
  · rw [exec_wrNonce0, exec_wrNonce1, exec_wrNonce2, ← hset0, ← hset1, ← hset2]
    simp only [guardedWrite_of_idle hidle]
    exact ⟨rfl, rfl, rfl⟩
  · simp only [exec_wrNonce0, exec_wrNonce1, exec_wrNonce2, guardedWrite_of_busy hbusy]
    exact ⟨rfl, rfl, rfl⟩

theorem keyAddr_eq_append (i : Fin 8) : keyAddr i = 0b001#3 ++ BitVec.ofNat 3 i.val ++ 0b00#2 := by
  revert i
  decide

/-- Settles O24: the row of WR_KEY takes its index from the command and is the guarded write of that word. -/
theorem wrKeySetsTheWord : Obligations.WrKeySetsTheWord := by
  refine ⟨fun cmd w hcmd => ⟨keyIndexOf cmd, rfl, ?_⟩, fun i w s => ⟨fun hidle => ?_, fun hbusy => ?_⟩⟩
  · exact decode_of_selects (r := ⟨0x120#9, 0x1E3#9, fun c w => .wrKey (keyIndexOf c) w⟩) (by simp [haRows])
      (by simp [HaRow.selects, hcmd]) w
  · refine ⟨s.key.set i w, fun j => ?_, ?_⟩
    · simp [Vector.getElem_set, Fin.ext_iff, eq_comm]
    · rw [exec_wrKey, guardedWrite_of_idle hidle]
      rfl
  · rw [exec_wrKey, guardedWrite_of_busy hbusy, keyAddr_eq_append]

end Sys2Proof.Machine
end

section
/-! Proofs that the checks of 40_host_commands.md R100, in order, decide every access, register by register of the
address map (20_memory.md R61). -/

namespace Sys2Proof.Machine

/-! ### The outcome the checks call for -/

/-- What R100 says of the outcome `o` of an access for which its checks find `cause`. -/
def FollowsChecks (cause : Option Cause) (we : Bool) (addr : BitVec 8) (s : State)
    (o : Host.Outcome State Fault Refusal) : Prop :=
  match cause with
  | some c => o = .next (rejected (causeCode c) addr we s)
  | none => ∃ t, o = .next t ∧ t.errOut = false ∧ (we = true → t.rdata = 0#32)

theorem followsChecks_acceptRead (addr : BitVec 8) (v : Word) (s : State) :
    FollowsChecks none false addr s (.next (acceptRead v s)) :=
  ⟨_, rfl, rfl, fun hwrite => absurd hwrite Bool.false_ne_true⟩

theorem followsChecks_acceptWrite (addr : BitVec 8) (s t : State) :
    FollowsChecks none true addr s (.next (acceptWrite t)) :=
  ⟨_, rfl, rfl, fun _ => rfl⟩

theorem followsChecks_accessError (c : Cause) (we : Bool) (addr : BitVec 8) (s : State) :
    FollowsChecks (some c) we addr s (.next (accessError c addr we s)) :=
  congrArg Host.Outcome.next (accessError_eq c addr we s)

theorem followsChecks_guardedWrite (addr : BitVec 8) (f : State → State) (s : State) :
    FollowsChecks (if s.busy then some .busyWrite else none) true addr s (.next (guardedWrite addr f s)) := by
  cases hbusy : s.busy
  · rw [guardedWrite_of_idle hbusy]
    exact followsChecks_acceptWrite addr s (f s)
  · rw [guardedWrite_of_busy hbusy]
    rfl

theorem followsChecks_wrCtrl (w : Word) (s : State) :
    FollowsChecks (if startField w && s.busy then some .busyStart else none) true ctrlAddr s (exec (.wrCtrl w) s) := by
  cases hstart : startField w
  · rw [exec_wrCtrl_of_no_start hstart]
    exact followsChecks_acceptWrite ctrlAddr s _
  · cases hbusy : s.busy
    · rw [exec_wrCtrl_of_start hstart hbusy]
      exact followsChecks_acceptWrite ctrlAddr s _
    · rw [exec_wrCtrl_of_start_of_busy hstart hbusy]
      rfl

/-! ### What the checks find -/

theorem accessCause_misaligned (we : Bool) {addr : BitVec 8} (w : Word) (busy : Bool)
    (h : addr.extractLsb' 0 2 ≠ 0#2) : accessCause we addr w busy = some .misaligned := by
  simp [accessCause, h]

section Aligned

variable {addr : BitVec 8} (halign : addr.extractLsb' 0 2 = 0#2) (w : Word) (busy : Bool)
include halign

theorem accessCause_unmapped (we : Bool) (hslot : 32 ≤ (addr.extractLsb' 2 6).toNat) :
    accessCause we addr w busy = some .unmapped := by
  simp only [accessCause, halign, hslot]
  simp

theorem accessCause_read (hslot : (addr.extractLsb' 2 6).toNat < 32) : accessCause false addr w busy = none := by
  simp only [accessCause, halign, hslot.not_ge]
  simp

theorem accessCause_readOnly (hslot : (addr.extractLsb' 2 6).toNat < 32)
    (hreadOnly : (addr.extractLsb' 2 6).toNat = 0 ∨ (addr.extractLsb' 2 6).toNat = 3 ∨
      16 ≤ (addr.extractLsb' 2 6).toNat) :
    accessCause true addr w busy = some .readOnly := by
  simp only [accessCause, halign, hslot.not_ge, hreadOnly]
  simp

theorem accessCause_input (hslot : 4 ≤ (addr.extractLsb' 2 6).toNat ∧ (addr.extractLsb' 2 6).toNat ≤ 15) :
    accessCause true addr w busy = if busy then some .busyWrite else none := by
  have hmapped : ¬ 32 ≤ (addr.extractLsb' 2 6).toNat := by omega
  have hwritable : ¬ ((addr.extractLsb' 2 6).toNat = 0 ∨ (addr.extractLsb' 2 6).toNat = 3 ∨
      16 ≤ (addr.extractLsb' 2 6).toNat) := by omega
  have hctrl : ¬ (addr.extractLsb' 2 6).toNat = 1 := by omega
  simp only [accessCause, halign, hmapped, hwritable, hslot, hctrl]
  simp

end Aligned

theorem accessCause_ctrl (w : Word) (busy : Bool) :
    accessCause true ctrlAddr w busy = if startField w && busy then some .busyStart else none := by
  simp [accessCause, ctrlAddr, startField]

theorem accessCause_status (w : Word) (busy : Bool) : accessCause true statusAddr w busy = none := by
  simp [accessCause, statusAddr]

/-! ### The accesses, by address -/

theorem access_eq_exec {we : Bool} {addr : BitVec 8} {w : Word} {i : Instr}
    (h : decode (accessPacket we addr w) = .ok i) (s : State) : access we addr w s = exec i s :=
  runPacket_of_decode h s

theorem access_unmapped (we : Bool) (low : BitVec 5) (w : Word) (s : State) :
    access we (byteAddr (0b1#1 ++ low) 0b00#2) w s =
      .next (accessError .unmapped (byteAddr (0b1#1 ++ low) 0b00#2) we s) := by
  have hselects : HaRow.selects ⟨0x080#9, 0x083#9, fun c w => .accUnmapped (dirOf c w) (lowSlotOf c)⟩
      (BitVec.ofBool we ++ byteAddr (0b1#1 ++ low) 0b00#2) = true := by
    unfold HaRow.selects
    decide +revert
  have hlow : lowSlotOf (BitVec.ofBool we ++ byteAddr (0b1#1 ++ low) 0b00#2) = low := by decide +revert
  rw [access_eq_exec (decode_of_selects (by simp [haRows]) hselects w)]
  dsimp only
  rw [hlow, exec, execAccUnmapped, isWrite_dirOf_access]

theorem access_keyAddr_read (i : Fin 8) (w : Word) (s : State) :
    access false (keyAddr i) w s = .next (acceptRead 0#32 s) :=
  match i with
  | 0 | 1 | 2 | 3 | 4 | 5 | 6 | 7 => rfl

theorem access_keyAddr_write (i : Fin 8) (w : Word) (s : State) :
    access true (keyAddr i) w s = .next (guardedWrite (keyAddr i) (setKey i w) s) :=
  match i with
  | 0 | 1 | 2 | 3 | 4 | 5 | 6 | 7 => rfl

theorem access_nonceAddr_read (j : Fin 3) (w : Word) (s : State) :
    access false (nonceAddr j) w s = .next (acceptRead s.nonce[j] s) :=
  match j with
  | 0 | 1 | 2 => rfl

theorem access_nonceAddr_write (j : Fin 3) (w : Word) (s : State) :
    access true (nonceAddr j) w s = .next (guardedWrite (nonceAddr j) (setNonce j w) s) :=
  match j with
  | 0 | 1 | 2 => rfl

theorem access_outAddr_read (k : Fin 16) (w : Word) (s : State) :
    access false (outAddr k) w s = .next (acceptRead s.out[k] s) := by
  fin_cases k <;> rfl

theorem access_outAddr_write (k : Fin 16) (w : Word) (s : State) :
    access true (outAddr k) w s = .next (accessError .readOnly (outAddr k) true s) := by
  fin_cases k <;> rfl

/-! ### Every access follows the checks -/

section Register

variable {addr : BitVec 8} {w v : Word} {s : State} (we : Bool) (halign : addr.extractLsb' 0 2 = 0#2)
  (hread : access false addr w s = .next (acceptRead v s))
include halign hread

/-- The reads of all registers are accepted, so a register follows the checks where its write does. -/
theorem followsChecks_register (hslot : (addr.extractLsb' 2 6).toNat < 32)
    (hwrite : FollowsChecks (accessCause true addr w s.busy) true addr s (access true addr w s)) :
    FollowsChecks (accessCause we addr w s.busy) we addr s (access we addr w s) := by
  cases we
  · rw [accessCause_read halign w s.busy hslot, hread]
    exact followsChecks_acceptRead addr v s
  · exact hwrite

theorem followsChecks_readOnlyRegister (hslot : (addr.extractLsb' 2 6).toNat < 32)
    (hreadOnly : (addr.extractLsb' 2 6).toNat = 0 ∨ (addr.extractLsb' 2 6).toNat = 3 ∨
      16 ≤ (addr.extractLsb' 2 6).toNat)
    (hwrite : access true addr w s = .next (accessError .readOnly addr true s)) :
    FollowsChecks (accessCause we addr w s.busy) we addr s (access we addr w s) := by
  refine followsChecks_register we halign hread hslot ?_
  rw [accessCause_readOnly halign w s.busy hslot hreadOnly, hwrite]
  exact followsChecks_accessError .readOnly true addr s

theorem followsChecks_inputRegister {f : State → State}
    (hslot : 4 ≤ (addr.extractLsb' 2 6).toNat ∧ (addr.extractLsb' 2 6).toNat ≤ 15)
    (hwrite : access true addr w s = .next (guardedWrite addr f s)) :
    FollowsChecks (accessCause we addr w s.busy) we addr s (access we addr w s) := by
  refine followsChecks_register we halign hread (by omega) ?_
  rw [accessCause_input halign w s.busy hslot, hwrite]
  exact followsChecks_guardedWrite addr f s

end Register

/-- The address map: misaligned, unmapped, or one register's (20_memory.md R61, R68, R71). -/
theorem address_cases : ∀ addr : BitVec 8,
    addr.extractLsb' 0 2 ≠ 0#2 ∨ (∃ low : BitVec 5, addr = byteAddr (0b1#1 ++ low) 0b00#2) ∨
    addr = idAddr ∨ addr = ctrlAddr ∨ addr = statusAddr ∨ addr = errinfoAddr ∨ addr = counterAddr ∨
    (∃ j, addr = nonceAddr j) ∨ (∃ i, addr = keyAddr i) ∨ (∃ k, addr = outAddr k) := by
  decide +kernel

theorem followsChecks_access (we : Bool) (addr : BitVec 8) (w : Word) (s : State) :
    FollowsChecks (accessCause we addr w s.busy) we addr s (access we addr w s) := by
  rcases address_cases addr with
    hlow | ⟨low, rfl⟩ | rfl | rfl | rfl | rfl | rfl | ⟨j, rfl⟩ | ⟨i, rfl⟩ | ⟨k, rfl⟩
  · rw [accessCause_misaligned we w s.busy hlow]
    exact access_misaligned we w s hlow
  · have hslot : 32 ≤ ((byteAddr (0b1#1 ++ low) 0b00#2).extractLsb' 2 6).toNat := by decide +revert
    rw [accessCause_unmapped (by decide +revert) w s.busy we hslot, access_unmapped]
    exact followsChecks_accessError .unmapped we _ s
  · exact followsChecks_readOnlyRegister (addr := idAddr) we (by decide) rfl (by decide) (by decide) rfl
  · refine followsChecks_register (addr := ctrlAddr) we (by decide) rfl (by decide) ?_
    rw [accessCause_ctrl]
    exact followsChecks_wrCtrl w s
  · refine followsChecks_register (addr := statusAddr) we (by decide) rfl (by decide) ?_
    rw [accessCause_status]
    exact followsChecks_acceptWrite statusAddr s _
  · exact followsChecks_readOnlyRegister (addr := errinfoAddr) we (by decide) rfl (by decide) (by decide) rfl
  · exact followsChecks_inputRegister (addr := counterAddr) we (by decide) rfl (by decide) rfl
  · exact followsChecks_inputRegister we (by decide +revert) (access_nonceAddr_read j w s) (by decide +revert)
      (access_nonceAddr_write j w s)
  · exact followsChecks_inputRegister we (by decide +revert) (access_keyAddr_read i w s) (by decide +revert)
      (access_keyAddr_write i w s)
  · exact followsChecks_readOnlyRegister we (by decide +revert) (access_outAddr_read k w s) (by decide +revert)
      (by decide +revert) (access_outAddr_write k w s)

/-- Settles O10: every access follows the checks, and an access is its decoded command. -/
theorem accessChecksDecide : Obligations.AccessChecksDecide := by
  intro we addr w s
  have hfollows := followsChecks_access we addr w s
  constructor
  · intro c hcause
    rw [hcause] at hfollows
    exact hfollows
  · intro hcause
    rw [hcause] at hfollows
    obtain ⟨t, haccess, herr, hrdata⟩ := hfollows
    obtain ⟨i, hdecode⟩ := decode_ha_ok (BitVec.ofBool we ++ addr) w
    have hexec := access_eq_exec hdecode s
    exact ⟨i, t, hdecode, hexec, hexec ▸ haccess, herr, hrdata⟩

end Sys2Proof.Machine
end

section
/-! Proofs about the word operations (41_block_function.md R130, R131) and the block function (R136 to R138, R150). -/

namespace Sys2Proof.Machine

/-! ### The word operations -/

/-- Settles O49: addition of bit vectors is addition modulo 2^32, and adding a word is undone by subtracting it. -/
theorem add32WrapsWithoutFlags : Obligations.Add32WrapsWithoutFlags := by
  refine ⟨fun x y => ⟨BitVec.toNat_add x y, BitVec.add_comm x y, BitVec.add_zero x⟩, BitVec.add_assoc, ?_, rfl, rfl⟩
  intro y
  exact (Equiv.addRight y).bijective

/-- Bit j of the rotation comes from the left shift where j ≥ n, else from the right shift. -/
theorem getLsbD_rotl32 (x : Word) {n j : Nat} (hj : j < 32) :
    (rotl32 x n).getLsbD j = if n ≤ j then x.getLsbD (j - n) else x.getLsbD (32 - n + j) := by
  rw [rotl32, BitVec.getLsbD_or, BitVec.getLsbD_shiftLeft, BitVec.getLsbD_ushiftRight]
  by_cases hn : n ≤ j
  · have hout : x.getLsbD (32 - n + j) = false := BitVec.getLsbD_of_ge x _ (by omega)
    simp [hn, hj, hout]
  · simp [hn, hj]

theorem getLsbD_rotl32_add_mod (x : Word) {n i : Nat} (hn : n ≤ 31) (hi : i < 32) :
    (rotl32 x n).getLsbD ((i + n) % 32) = x.getLsbD i := by
  rw [getLsbD_rotl32 x (Nat.mod_lt _ (by decide))]
  by_cases hwrap : i + n < 32
  · rw [Nat.mod_eq_of_lt hwrap, if_pos (by omega), Nat.add_sub_cancel]
  · have hpos : (i + n) % 32 = i + n - 32 := by omega
    rw [hpos, if_neg (by omega)]
    congr 1
    omega

/-- A bit moved by n and then by 32 - n is back in its place. -/
theorem rotl32_rotl32_sub (x : Word) {n : Nat} (hpos : 1 ≤ n) (hn : n ≤ 31) :
    rotl32 (rotl32 x n) (32 - n) = x := by
  refine BitVec.eq_of_getLsbD_eq fun i hi => ?_
  have hback : ((i + n) % 32 + (32 - n)) % 32 = i := by omega
  calc (rotl32 (rotl32 x n) (32 - n)).getLsbD i
      = (rotl32 (rotl32 x n) (32 - n)).getLsbD (((i + n) % 32 + (32 - n)) % 32) := by rw [hback]
    _ = (rotl32 x n).getLsbD ((i + n) % 32) := getLsbD_rotl32_add_mod _ (by omega) (Nat.mod_lt _ (by decide))
    _ = x.getLsbD i := getLsbD_rotl32_add_mod x hn hi

theorem rotl32_bijective {n : Nat} (hpos : 1 ≤ n) (hn : n ≤ 31) : Function.Bijective fun x : Word => rotl32 x n := by
  refine Function.bijective_iff_has_inverse.mpr
    ⟨fun x => rotl32 x (32 - n), fun x => rotl32_rotl32_sub x hpos hn, fun x => ?_⟩
  have hback := rotl32_rotl32_sub x (n := 32 - n) (by omega) (by omega)
  rwa [Nat.sub_sub_self (by omega)] at hback

theorem rotl32_append_sixteen (h l : BitVec 16) : rotl32 (h ++ l) 16 = l ++ h := by
  refine BitVec.eq_of_getLsbD_eq fun j hj => ?_
  rw [getLsbD_rotl32 _ hj, BitVec.getLsbD_append, BitVec.getLsbD_append, BitVec.getLsbD_append]
  by_cases hlow : j < 16
  · simp [hlow]
  · have hhigh : j - 16 < 16 := by omega
    simp [hlow, hhigh]

/-- Settles O50: the laws of the rotation follow from where it moves each bit. -/
theorem rotl32MovesEveryBit : Obligations.Rotl32MovesEveryBit :=
  ⟨fun x _ _ _ hn hi => getLsbD_rotl32_add_mod x hn hi,
    fun x _ hpos hn => rotl32_rotl32_sub x hpos hn,
    fun _ hpos hn => rotl32_bijective hpos hn,
    rotl32_append_sixteen,
    fun _ _ _ => BitVec.getLsbD_xor,
    fun _ => ⟨BitVec.xor_self, BitVec.xor_zero⟩,
    rfl, rfl⟩

/-! ### The order of the quarter-rounds

A quarter-round reads and writes its own four words only. Two functions of that kind on disjoint index sets commute, so
a fold over groups without a common index does not depend on their order. -/

/-- `f` changes no word outside `A`, and what it leaves in `A` depends on the words in `A` only. -/
structure ActsWithin (A : List (Fin 16)) (f : Words16 → Words16) : Prop where
  frame : ∀ (x : Words16) (i : Fin 16), i ∉ A → (f x)[i] = x[i]
  congr : ∀ x y : Words16, (∀ i ∈ A, x[i] = y[i]) → ∀ i ∈ A, (f x)[i] = (f y)[i]

theorem words16_ext {x y : Words16} (h : ∀ i : Fin 16, x[i] = y[i]) : x = y :=
  Vector.ext fun i hi => h ⟨i, hi⟩

theorem ActsWithin.comp {A : List (Fin 16)} {f g : Words16 → Words16} (hg : ActsWithin A g) (hf : ActsWithin A f) :
    ActsWithin A (g ∘ f) where
  frame x i hi := (hg.frame (f x) i hi).trans (hf.frame x i hi)
  congr x y hxy := hg.congr (f x) (f y) (hf.congr x y hxy)

/-- At an index of A both sides are f's word, at an index of B both are g's, elsewhere x stands. -/
theorem ActsWithin.comm {A B : List (Fin 16)} {f g : Words16 → Words16} (hf : ActsWithin A f) (hg : ActsWithin B g)
    (hdisj : A.Disjoint B) (x : Words16) : f (g x) = g (f x) := by
  refine words16_ext fun i => ?_
  by_cases hA : i ∈ A
  · rw [hg.frame (f x) i (hdisj hA)]
    exact hf.congr (g x) x (fun j hj => hg.frame x j (hdisj hj)) i hA
  · rw [hf.frame (g x) i hA]
    by_cases hB : i ∈ B
    · exact (hg.congr (f x) x (fun j hj => hf.frame x j fun hjA => hdisj hjA hj) i hB).symm
    · rw [hg.frame x i hB, hg.frame (f x) i hB, hf.frame x i hA]

theorem ActsWithin.set {A : List (Fin 16)} {a : Fin 16} (ha : a ∈ A) {v : Words16 → Word}
    (hv : ∀ x y : Words16, (∀ i ∈ A, x[i] = y[i]) → v x = v y) : ActsWithin A fun x => x.set a (v x) where
  frame x i hi := by
    have hne : a.val ≠ i.val := fun h => hi (Fin.ext h ▸ ha)
    exact Vector.getElem_set_ne a.isLt i.isLt hne
  congr x y hxy i hi := by
    simp only [Fin.getElem_fin, Vector.getElem_set]
    by_cases h : a.val = i.val
    · rw [if_pos h, if_pos h, hv x y hxy]
    · rw [if_neg h, if_neg h]
      exact hxy i hi

theorem quarterStep_actsWithin {A : List (Fin 16)} {a b d : Fin 16} (ha : a ∈ A) (hb : b ∈ A) (hd : d ∈ A) (n : Nat) :
    ActsWithin A (quarterStep a b d n) := by
  have hadd : ActsWithin A fun x => x.set a (add32 x[a] x[b]) :=
    .set ha fun x y hxy => by rw [hxy a ha, hxy b hb]
  have hrot : ActsWithin A fun y => y.set d (rotl32 (xor32 y[d] y[a]) n) :=
    .set hd fun x y hxy => by rw [hxy d hd, hxy a ha]
  exact hrot.comp hadd

theorem qr_actsWithin (a b c d : Fin 16) : ActsWithin [a, b, c, d] (qr a b c d) := by
  have ha : a ∈ [a, b, c, d] := by simp
  have hb : b ∈ [a, b, c, d] := by simp
  have hc : c ∈ [a, b, c, d] := by simp
  have hd : d ∈ [a, b, c, d] := by simp
  exact (quarterStep_actsWithin hc hd hb 7).comp <| (quarterStep_actsWithin ha hb hd 8).comp <|
    (quarterStep_actsWithin hc hd hb 12).comp (quarterStep_actsWithin ha hb hd 16)

/-- The indices of a group. -/
def groupIndices (g : Fin 16 × Fin 16 × Fin 16 × Fin 16) : List (Fin 16) := [g.1, g.2.1, g.2.2.1, g.2.2.2]

/-- R150's condition on the groups of a round. -/
def EachIndexInOneGroup (groups : List (Fin 16 × Fin 16 × Fin 16 × Fin 16)) : Prop :=
  ∀ i : Fin 16, (groups.filter fun g => i ∈ groupIndices g).length = 1

theorem columnGroups_eachIndexInOneGroup : EachIndexInOneGroup columnGroups := by
  unfold EachIndexInOneGroup
  decide

theorem diagonalGroups_eachIndexInOneGroup : EachIndexInOneGroup diagonalGroups := by
  unfold EachIndexInOneGroup
  decide

theorem groupIndices_disjoint {groups : List (Fin 16 × Fin 16 × Fin 16 × Fin 16)} (hone : EachIndexInOneGroup groups)
    {g g' : Fin 16 × Fin 16 × Fin 16 × Fin 16} (hg : g ∈ groups) (hg' : g' ∈ groups) (hne : g ≠ g') :
    (groupIndices g).Disjoint (groupIndices g') := by
  intro i hi hi'
  obtain ⟨only, honly⟩ := List.length_eq_one_iff.mp (hone i)
  have heq : ∀ h ∈ groups, i ∈ groupIndices h → h = only := fun h hh hih =>
    List.mem_singleton.mp (honly ▸ List.mem_filter.mpr ⟨hh, decide_eq_true hih⟩)
  exact hne ((heq g hg hi).trans (heq g' hg' hi').symm)

theorem qrAll_eq_of_perm {gs hs : List (Fin 16 × Fin 16 × Fin 16 × Fin 16)} (hone : EachIndexInOneGroup hs)
    (hperm : gs.Perm hs) (x : Words16) : qrAll gs x = qrAll hs x := by
  refine (hperm.symm.foldl_eq' (fun g hg g' hg' y => ?_) x).symm
  by_cases h : g = g'
  · rw [h]
  · exact (qr_actsWithin _ _ _ _).comm (qr_actsWithin _ _ _ _) (groupIndices_disjoint hone hg' hg (Ne.symm h)) y

theorem columnRound_eq_qrAll (x : Words16) : columnRound x = qrAll columnGroups x := rfl

theorem diagonalRound_eq_qrAll (x : Words16) : diagonalRound x = qrAll diagonalGroups x := rfl

/-- Settles O53: as each index is in exactly one group, two groups of a round have none in common, and their
quarter-rounds commute. -/
theorem roundOrderDoesNotMatter : Obligations.RoundOrderDoesNotMatter := by
  refine ⟨fun gs x => ⟨fun hperm => ?_, fun hperm => ?_⟩,
    fun i => ⟨columnGroups_eachIndexInOneGroup i, diagonalGroups_eachIndexInOneGroup i⟩⟩
  · rw [columnRound_eq_qrAll, qrAll_eq_of_perm columnGroups_eachIndexInOneGroup hperm]
  · rw [diagonalRound_eq_qrAll, qrAll_eq_of_perm diagonalGroups_eachIndexInOneGroup hperm]

/-! ### The block -/

/-- Settles O54, word by word. -/
theorem initStateLayout : Obligations.InitStateLayout := by
  intro sigma k c n
  refine ⟨fun i => ?_, fun i => ?_, rfl, fun j => ?_⟩
  · match i with
    | 0 | 1 | 2 | 3 => rfl
  · match i with
    | 0 | 1 | 2 | 3 | 4 | 5 | 6 | 7 => rfl
  · match j with
    | 0 | 1 | 2 => rfl

theorem roundTimes_succ_of_even {n : Nat} (h : n % 2 = 0) (x : Words16) :
    roundTimes (n + 1) x = columnRound (roundTimes n x) := by
  rw [roundTimes, if_pos h]

theorem roundTimes_succ_of_odd {n : Nat} (h : n % 2 = 1) (x : Words16) :
    roundTimes (n + 1) x = diagonalRound (roundTimes n x) := by
  rw [roundTimes, if_neg (by omega)]

theorem roundTimes_two_mul (n : Nat) (x : Words16) : roundTimes (2 * n) x = doubleRoundTimes n x := by
  induction n with
  | zero => rfl
  | succ n ih =>
    calc roundTimes (2 * n + 1 + 1) x
        = diagonalRound (roundTimes (2 * n + 1) x) := roundTimes_succ_of_odd (by omega) x
      _ = diagonalRound (columnRound (roundTimes (2 * n) x)) := by rw [roundTimes_succ_of_even (by omega)]
      _ = doubleRoundTimes (n + 1) x := by rw [ih]; rfl

theorem feedForward_getElem (x s : Words16) (i : Fin 16) : (feedForward x s)[i] = x[i] + s[i] := by
  fin_cases i <;> rfl

/-- Settles O55: each double-round is two of the alternating rounds. -/
theorem blockIsTwentyRoundsAndFeedForward : Obligations.BlockIsTwentyRoundsAndFeedForward := by
  refine ⟨roundTimes_two_mul, fun sigma k c n i => ?_⟩
  rw [blockWords, feedForward_getElem, ← roundTimes_two_mul, Config.doubleRounds]

end Sys2Proof.Machine
end

section
/-! Proofs about the rounds of the reference sequencer (41_block_function.md R144, R145). -/

namespace Sys2Proof.Machine

theorem decode_seqCol (r : BitVec 4) : decode (.seq (0b01#2 ++ r ++ 0b0#1)) = .ok (.seqCol r) := by
  decide +revert

theorem decode_seqDiag (r : BitVec 4) : decode (.seq (0b01#2 ++ r ++ 0b1#1)) = .ok (.seqDiag r) := by
  decide +revert

theorem exec_seqCol (r : BitVec 4) (s : State) :
    exec (.seqCol r) s = .next { s with x := columnRound s.x, rnd := s.rnd + 1#5 } := rfl

/-- RND becomes 20 exactly where it was 19, also where it wraps. -/
theorem rnd_succ_eq_twenty_iff (rnd : BitVec 5) : rnd + 1#5 = 20#5 ↔ rnd = 19#5 :=
  add_left_inj (b := rnd) (c := 19#5) 1#5

theorem exec_seqDiag_of_last (r : BitVec 4) {s : State} (h : s.rnd = 19#5) :
    exec (.seqDiag r) s = .next { s with x := diagonalRound s.x, rnd := 20#5, phase := 0b10#2 } := by
  have hnext : s.rnd + 1#5 = 20#5 := (rnd_succ_eq_twenty_iff s.rnd).mpr h
  simp [exec, execSeqDiag, hnext]

theorem exec_seqDiag_of_not_last (r : BitVec 4) {s : State} (h : s.rnd ≠ 19#5) :
    exec (.seqDiag r) s = .next { s with x := diagonalRound s.x, rnd := s.rnd + 1#5 } := by
  have hnext : s.rnd + 1#5 ≠ 20#5 := mt (rnd_succ_eq_twenty_iff s.rnd).mp h
  simp [exec, execSeqDiag, hnext]

/-- Settles O25: in ROUND, RND is below 20, so an even one is at most 18 and does not wrap. -/
theorem seqColPerformsAColumnRound : Obligations.SeqColPerformsAColumnRound := by
  intro r s
  refine ⟨decode_seqCol r, exec_seqCol r s, fun hphaseOk hround heven => ?_⟩
  obtain ⟨-, -, hbound, -⟩ := hphaseOk
  have hrnd : s.rnd.toNat < 20 := hbound hround
  have hnext : (s.rnd + 1#5).toNat = s.rnd.toNat + 1 := BitVec.toNat_add_of_lt (show s.rnd.toNat + 1 < 32 by omega)
  omega

/-- Settles O26: the two cases of RND. -/
theorem seqDiagPerformsADiagonalRound : Obligations.SeqDiagPerformsADiagonalRound :=
  fun r _ => ⟨decode_seqDiag r, exec_seqDiag_of_last r, exec_seqDiag_of_not_last r⟩

end Sys2Proof.Machine
end

section
/-! Proofs about the error record and the interrupt's two lifecycles (60_exceptions.md R163, R167, R168). -/

namespace Sys2Proof.Machine

/-! ### The error record -/

theorem recordError_of_no_error {s : State} (h : s.err = false) (c : Cause) (addr : BitVec 8) (we : Bool) :
    recordError c addr we s = { s with err := true, ecode := causeCode c, eaddr := addr, ewe := we } := by
  simp [recordError, h]

theorem recordError_of_error {s : State} (h : s.err = true) (c : Cause) (addr : BitVec 8) (we : Bool) :
    recordError c addr we s = s := by
  simp [recordError, h]

/-- Settles O9: the two branches of R163. -/
theorem firstErrorIsKept : Obligations.FirstErrorIsKept :=
  fun c addr we _ => ⟨fun hclear => recordError_of_no_error hclear c addr we,
    fun herr => recordError_of_error herr c addr we⟩

theorem rejected_record_of_no_error {s : State} (h : s.err = false) (code : BitVec 3) (addr : BitVec 8) (we : Bool) :
    (rejected code addr we s).ecode = code ∧ (rejected code addr we s).eaddr = addr ∧
    (rejected code addr we s).ewe = we := by
  simp [h]

/-! ### The two sources of the interrupt, one at a time -/

theorem irq_of_not_done {s : State} (h : s.done = false) : irq s = (s.err && s.errIe) := by
  rw [irq, h, Bool.false_and, Bool.false_or]

theorem irq_of_no_error {s : State} (h : s.err = false) : irq s = (s.done && s.doneIe) := by
  rw [irq, h, Bool.false_and, Bool.or_false]

theorem irq_of_done {s : State} (hdone : s.done = true) (henabled : s.doneIe = true) : irq s = true :=
  (irq_eq_true_iff s).mpr (.inl ⟨hdone, henabled⟩)

theorem irq_of_error {s : State} (herr : s.err = true) (henabled : s.errIe = true) : irq s = true :=
  (irq_eq_true_iff s).mpr (.inr ⟨herr, henabled⟩)

/-! ### The accesses of the lifecycles -/

theorem exec_rdOut (k : Fin 16) (s : State) : exec (.rdOut k) s = .next (acceptRead s.out[k] s) := rfl

/-- `ACK` (30_encoding.md R94). -/
theorem exec_wrStatus_ack (s : State) : exec (.wrStatus 0x00000002#32) s = .next (acceptWrite (clearDone s)) := rfl

/-- `CLRERR` (30_encoding.md R94). -/
theorem exec_wrStatus_clrErr (s : State) : exec (.wrStatus 0x00000004#32) s = .next (acceptWrite (clearError s)) := rfl

/-- The state an accepted START with the word `w` leaves. -/
def afterStart (w : Word) (s : State) : State :=
  acceptWrite (startBlock (setEnables (doneIeField w) (errIeField w) s))

theorem exec_wrCtrl_afterStart {w : Word} (hstart : w.getLsbD 0 = true) {s : State} (hidle : s.busy = false) :
    exec (.wrCtrl w) s = .next (afterStart w s) :=
  exec_wrCtrl_of_start hstart hidle

theorem afterStart_done (w : Word) (s : State) : (afterStart w s).done = false := rfl

/-- An accepted START leaves of the interrupt only the error source, as its own word enables it. -/
theorem irq_afterStart (w : Word) (s : State) : irq (afterStart w s) = (s.err && w.getLsbD 2) :=
  irq_of_not_done (afterStart_done w s)

/-! ### The block a completion publishes -/

theorem keyWords_initState (sigma : Vector Word 4) (k : Vector Word 8) (c : Word) (n : Vector Word 3) :
    keyWords (initState sigma k c n) = k := by
  ext j hj
  match j, hj with
  | 0, _ | 1, _ | 2, _ | 3, _ | 4, _ | 5, _ | 6, _ | 7, _ => rfl

theorem nonceWords_initState (sigma : Vector Word 4) (k : Vector Word 8) (c : Word) (n : Vector Word 3) :
    nonceWords (initState sigma k c n) = n := by
  ext j hj
  match j, hj with
  | 0, _ | 1, _ | 2, _ => rfl

/-- What a START latched is what the completion computes its block from. -/
theorem complete_afterStart_out (w : Word) (s : State) :
    (complete (afterStart w s)).out = blockWords Config.sigma s.key s.counter s.nonce := by
  have hlatch : (afterStart w s).s0 = initState Config.sigma s.key s.counter s.nonce := rfl
  have hcounter : (afterStart w s).s0[12] = s.counter := rfl
  rw [complete_out, hcounter, hlatch, keyWords_initState, nonceWords_initState]

/-! ### The lifecycles -/

/-- Settles O46: the checks make the first rejected access the record of its cause, and CLRERR leaves the completion
source alone. -/
theorem errorInterruptLifecycle : Obligations.ErrorInterruptLifecycle := by
  intro s we addr w c henabled hclear hcause
  obtain ⟨hrejects, -⟩ := accessChecksDecide we addr w s
  obtain ⟨hcode, haddr, hwe⟩ := rejected_record_of_no_error hclear (causeCode c) addr we
  have hirq : irq (rejected (causeCode c) addr we s) = true := irq_of_error rfl henabled
  exact ⟨_, _, hrejects c hcause, rfl, hirq, hcode, haddr, hwe, exec_wrStatus_clrErr _, rfl, rfl, rfl, rfl,
    irq_of_no_error rfl⟩

/-- Settles O45: a START and an acknowledgement each leave the error source alone of the interrupt, and the completion
between them raises the completion source, which the read of OUT does not touch. -/
theorem completionInterruptLifecycle : Obligations.CompletionInterruptLifecycle := by
  intro w s hstart henabled hidle
  have hirq : irq (complete (afterStart w s)) = true := irq_of_done rfl henabled
  refine ⟨afterStart w s, exec_wrCtrl_afterStart hstart hidle, afterStart_done w s, irq_afterStart w s, rfl, hirq,
    fun k => ?_, fun v hrestart => ?_⟩
  · have hword : (complete (afterStart w s)).out[k] = (blockWords Config.sigma s.key s.counter s.nonce)[k] :=
      congrArg (·[k]) (complete_afterStart_out w s)
    exact ⟨_, _, exec_rdOut k _, hword, hirq, exec_wrStatus_ack _, rfl, irq_of_not_done rfl⟩
  · exact ⟨_, exec_wrCtrl_afterStart hrestart rfl, afterStart_done v _, irq_afterStart v _⟩

end Sys2Proof.Machine
end

section
/-! Proofs about `Reset()` (70_reset_and_hazards.md R191, R192) and about what BUSY protects (R195). -/

namespace Sys2Proof.Machine

/-! ### Reset -/

theorem step_of_turns_cons {s : State} {u : Turn} {ts : List Turn} (h : s.turns = u :: ts) :
    step s = takeTurn u { s with turns := ts } := by
  simp only [step, h]

theorem irq_resetEdge (s : State) : irq (resetEdge s) = false := irq_eq_false_of_none_pending rfl rfl

/-- Every bit that a read of STATUS assembles is 0: the stored ones by reset, IRQ with nothing pending. -/
theorem statusWord_resetEdge (s : State) : statusWord (resetEdge s) = 0#32 := by
  rw [statusWord, irq_resetEdge]
  simp [resetEdge]

theorem errinfoWord_resetEdge (s : State) : errinfoWord (resetEdge s) = 0#32 := by
  simp [errinfoWord, resetEdge]

/-- Settles O34: the reset turn is `Reset()`, and the words that reads assemble are those of the bits it leaves. -/
theorem resetLeavesTheSpecValues : Obligations.ResetLeavesTheSpecValues := by
  intro s ts hturns
  refine ⟨resetEdge { s with turns := ts }, step_of_turns_cons hturns, fun i => ?_, fun j => ?_, rfl, fun k => ?_,
    rfl, rfl, rfl, rfl, rfl, rfl, errinfoWord_resetEdge _, rfl, irq_resetEdge _, statusWord_resetEdge _⟩
  · exact Vector.getElem_replicate i.isLt
  · exact Vector.getElem_replicate j.isLt
  · exact Vector.getElem_replicate k.isLt

/-- Settles O36: a reset turn with an access in it is refused whatever the state is. -/
theorem accessDuringResetIsRefused : Obligations.AccessDuringResetIsRefused :=
  fun _ _ hturns => step_of_turns_cons hturns

/-! ### The running block -/

/-- What a running block is computed from, its computation, and the block before it are in `t` as in `s` (R195). -/
structure SameBlock (s t : State) : Prop where
  key : t.key = s.key
  nonce : t.nonce = s.nonce
  counter : t.counter = s.counter
  out : t.out = s.out
  s0 : t.s0 = s.s0
  x : t.x = s.x
  phase : t.phase = s.phase
  rnd : t.rnd = s.rnd
  busy : t.busy = s.busy

theorem sameBlock_acceptRead (v : Word) (s : State) : SameBlock s (acceptRead v s) := by constructor <;> rfl

theorem sameBlock_rejected (code : BitVec 3) (addr : BitVec 8) (we : Bool) (s : State) :
    SameBlock s (rejected code addr we s) := by constructor <;> rfl

theorem sameBlock_setEnables (doneIe errIe : Bool) (s : State) :
    SameBlock s (acceptWrite (setEnables doneIe errIe s)) := by constructor <;> rfl

theorem SameBlock.pollNext {s t : State} (h : SameBlock s t) (mask value : Word) (rest : List HostOp) :
    SameBlock s (pollNext mask value rest t) := by
  obtain ⟨key, nonce, counter, out, s0, x, phase, rnd, busy⟩ := h
  unfold Machine.pollNext
  split <;> constructor <;> assumption

/-- The outcome is a next state with the same block. -/
def KeepsBlock (s : State) (o : Host.Outcome State Fault Refusal) : Prop := ∃ t, o = .next t ∧ SameBlock s t

theorem keepsBlock_accessError (c : Cause) (addr : BitVec 8) (we : Bool) (s : State) :
    KeepsBlock s (.next (accessError c addr we s)) :=
  ⟨_, rfl, accessError_eq c addr we s ▸ sameBlock_rejected _ addr we s⟩

theorem keepsBlock_wrStatus (w : Word) (s : State) : KeepsBlock s (exec (.wrStatus w) s) := by
  refine ⟨_, rfl, ?_⟩
  rw [ite_clearDone, ite_clearError]
  constructor <;> rfl

section Busy

variable {s : State} (hbusy : s.busy = true)
include hbusy

theorem keepsBlock_guardedWrite (addr : BitVec 8) (f : State → State) :
    KeepsBlock s (.next (guardedWrite addr f s)) := by
  rw [guardedWrite_of_busy hbusy]
  exact ⟨_, rfl, sameBlock_rejected _ addr true s⟩

/-- While BUSY a write of CTRL sets the enables at most: a START, which would latch new inputs, is rejected. -/
theorem keepsBlock_wrCtrl (w : Word) : KeepsBlock s (exec (.wrCtrl w) s) := by
  cases hstart : startField w
  · exact ⟨_, exec_wrCtrl_of_no_start hstart s, sameBlock_setEnables _ _ s⟩
  · exact ⟨_, exec_wrCtrl_of_start_of_busy hstart hbusy, sameBlock_rejected _ ctrlAddr true s⟩

end Busy

/-- A register whose read is accepted keeps the block where its write does. -/
theorem keepsBlock_register {addr : BitVec 8} {w v : Word} {s : State} (we : Bool)
    (hread : access false addr w s = .next (acceptRead v s)) (hwrite : KeepsBlock s (access true addr w s)) :
    KeepsBlock s (access we addr w s) := by
  cases we
  · exact ⟨_, hread, sameBlock_acceptRead v s⟩
  · exact hwrite

/-- While BUSY no access touches the block, register by register of the address map (20_memory.md R61). -/
theorem keepsBlock_access {s : State} (hbusy : s.busy = true) (we : Bool) (addr : BitVec 8) (w : Word) :
    KeepsBlock s (access we addr w s) := by
  rcases address_cases addr with
    hlow | ⟨low, rfl⟩ | rfl | rfl | rfl | rfl | rfl | ⟨j, rfl⟩ | ⟨i, rfl⟩ | ⟨k, rfl⟩
  · exact ⟨_, access_misaligned we w s hlow, sameBlock_rejected _ addr we s⟩
  · rw [access_unmapped]
    exact keepsBlock_accessError .unmapped _ we s
  · exact keepsBlock_register (addr := idAddr) we rfl (keepsBlock_accessError .readOnly idAddr true s)
  · exact keepsBlock_register (addr := ctrlAddr) we rfl (keepsBlock_wrCtrl hbusy w)
  · exact keepsBlock_register (addr := statusAddr) we rfl (keepsBlock_wrStatus w s)
  · exact keepsBlock_register (addr := errinfoAddr) we rfl (keepsBlock_accessError .readOnly errinfoAddr true s)
  · exact keepsBlock_register (addr := counterAddr) we rfl (keepsBlock_guardedWrite hbusy counterAddr (setCounter w))
  · exact keepsBlock_register we (access_nonceAddr_read j w s)
      (access_nonceAddr_write j w s ▸ keepsBlock_guardedWrite hbusy _ _)
  · exact keepsBlock_register we (access_keyAddr_read i w s)
      (access_keyAddr_write i w s ▸ keepsBlock_guardedWrite hbusy _ _)
  · exact keepsBlock_register we (access_outAddr_read k w s)
      (access_outAddr_write k w s ▸ keepsBlock_accessError .readOnly _ true s)

/-- A command word is its direction bit and its address (30_encoding.md R81). -/
theorem runPacket_ha_eq_access (cmd : BitVec 9) (w : Word) (s : State) :
    runPacket (.ha cmd w) s = access (cmd.getLsbD 8) (cmd.extractLsb' 0 8) w s := by
  have hcmd : BitVec.ofBool (cmd.getLsbD 8) ++ cmd.extractLsb' 0 8 = cmd := by decide +kernel +revert
  rw [access, accessPacket, hcmd]

theorem keepsBlock_exec_of_decode {s : State} (hbusy : s.busy = true) {cmd : BitVec 9} {w : Word} {i : Instr}
    (h : decode (.ha cmd w) = .ok i) : KeepsBlock s (exec i s) := by
  rw [← runPacket_of_decode h, runPacket_ha_eq_access]
  exact keepsBlock_access hbusy _ _ w

/-- A move of the host is no access, one access, or one read of a POLL, and beyond that concerns its program only. -/
theorem keepsBlock_hostMove {s : State} (hbusy : s.busy = true) : KeepsBlock s (hostMove s) := by
  rcases hostMove_cases s with
    ⟨-, hmove⟩ | ⟨cmd, w, rest, i, -, hdecode, hmove⟩ | ⟨addr, mask, value, rest, i, t, -, hdecode, hexec, hmove⟩
  · exact ⟨s, hmove, by constructor <;> rfl⟩
  · obtain ⟨t, hexec, hblock⟩ := keepsBlock_exec_of_decode (s := { s with host := rest }) hbusy hdecode
    exact ⟨t, hmove.trans hexec, { hblock with }⟩
  · obtain ⟨u, hu, hblock⟩ := keepsBlock_exec_of_decode hbusy hdecode
    obtain rfl : t = u := Host.Outcome.next.inj (hexec.symm.trans hu)
    exact ⟨_, hmove, hblock.pollNext mask value rest⟩

/-! ### The rejections while BUSY -/

theorem slot_of_inputAddr {addr : BitVec 8} (hlow : 0x10 ≤ addr.toNat) (hhigh : addr.toNat ≤ 0x3C) :
    4 ≤ (addr.extractLsb' 2 6).toNat ∧ (addr.extractLsb' 2 6).toNat ≤ 15 := by
  rw [BitVec.extractLsb'_toNat, Nat.shiftRight_eq_div_pow]
  omega

/-- Settles O39: while BUSY the checks find BUSY_WRITE for the inputs' slots and BUSY_START for a START, and no move of
the host touches the block. -/
theorem busyProtectsTheBlock : Obligations.BusyProtectsTheBlock := by
  intro s hbusy
  refine ⟨fun addr w halign hlow hhigh => ?_, fun w hstart => ?_, ?_⟩
  · obtain ⟨hrejects, -⟩ := accessChecksDecide true addr w s
    refine hrejects .busyWrite ?_
    rw [accessCause_input halign w s.busy (slot_of_inputAddr hlow hhigh), hbusy, if_pos rfl]
  · exact exec_wrCtrl_of_start_of_busy hstart hbusy
  · obtain ⟨t, hmove, key, nonce, counter, out, s0, x, phase, rnd, busy⟩ := keepsBlock_hostMove hbusy
    exact ⟨t, hmove, key, nonce, counter, out, s0, x, phase, rnd, busy.trans hbusy⟩

end Sys2Proof.Machine
end

section
/-! Proofs that the decoder and the encoder are inverse (30_encoding.md R81, R84, R88), and that the rows of the opcode
table partition the commands. -/

namespace Sys2Proof.Machine

/-! ### The fields of a command -/

theorem cmdOf_fields (cmd : BitVec 9) : cmdOf (cmd.getLsbD 8) (slotOf cmd) (cmd.extractLsb' 0 2) = cmd := by
  decide +kernel +revert

theorem slotOf_cmdOf (we : Bool) (slot : BitVec 6) (low : BitVec 2) : slotOf (cmdOf we slot low) = slot := by
  decide +kernel +revert

theorem cmdOf_and_three (we : Bool) (slot : BitVec 6) (low : BitVec 2) :
    cmdOf we slot low &&& 3#9 = low.setWidth 9 := by
  rw [and_three_eq_low, cmdOf, BitVec.extractLsb'_append_eq_of_add_le (by decide), BitVec.extractLsb'_eq_self]

/-- The write data that an access carries: a read has none (log 16). -/
def dirData : Dir → Word
  | .rd => 0#32
  | .wr w => w

theorem dirPacket_eq (dir : Dir) (slot : BitVec 6) (low : BitVec 2) :
    dirPacket dir slot low = .ha (cmdOf (isWrite dir) slot low) (dirData dir) := by
  cases dir <;> rfl

theorem dirOf_cmdOf (dir : Dir) (slot : BitVec 6) (low : BitVec 2) :
    dirOf (cmdOf (isWrite dir) slot low) (dirData dir) = dir := by
  have hbit : (cmdOf (isWrite dir) slot low).getLsbD 8 = isWrite dir := by
    generalize isWrite dir = we
    decide +kernel +revert
  rw [dirOf, hbit]
  cases dir <;> rfl

theorem dirPacket_fields (cmd : BitVec 9) (w : Word) :
    dirPacket (dirOf cmd w) (slotOf cmd) (cmd.extractLsb' 0 2) = .ha cmd (if cmd.getLsbD 8 then w else 0#32) := by
  have hcmd := cmdOf_fields cmd
  unfold dirOf
  split <;> rename_i hbit
  · rw [dirPacket_eq, isWrite, ← hbit, hcmd, dirData]
  · rw [Bool.not_eq_true] at hbit
    rw [dirPacket_eq, isWrite, ← hbit, hcmd, dirData]

/-! ### Decode of encode -/

theorem decode_dirPacket {r : HaRow} (hr : r ∈ haRows) (dir : Dir) {slot : BitVec 6} {low : BitVec 2}
    (hsel : ∀ we, r.selects (cmdOf we slot low) = true) :
    decode (dirPacket dir slot low) = .ok (r.read (cmdOf (isWrite dir) slot low) (dirData dir)) := by
  rw [dirPacket_eq]
  exact decode_of_selects hr (hsel _) _

theorem decode_accMisaligned01 (dir : Dir) (slot : BitVec 6) :
    decode (dirPacket dir slot 0b01#2) = .ok (.accMisaligned01 dir slot) := by
  rw [decode_dirPacket (r := ⟨0x001#9, 0x003#9, fun c w => .accMisaligned01 (dirOf c w) (slotOf c)⟩)
    (by simp [haRows]) dir fun we => by simp [HaRow.selects, cmdOf_and_three]]
  simp only [dirOf_cmdOf, slotOf_cmdOf]

theorem decode_accMisaligned10 (dir : Dir) (slot : BitVec 6) :
    decode (dirPacket dir slot 0b10#2) = .ok (.accMisaligned10 dir slot) := by
  rw [decode_dirPacket (r := ⟨0x002#9, 0x003#9, fun c w => .accMisaligned10 (dirOf c w) (slotOf c)⟩)
    (by simp [haRows]) dir fun we => by simp [HaRow.selects, cmdOf_and_three]]
  simp only [dirOf_cmdOf, slotOf_cmdOf]

theorem decode_accMisaligned11 (dir : Dir) (slot : BitVec 6) :
    decode (dirPacket dir slot 0b11#2) = .ok (.accMisaligned11 dir slot) := by
  rw [decode_dirPacket (r := ⟨0x003#9, 0x003#9, fun c w => .accMisaligned11 (dirOf c w) (slotOf c)⟩)
    (by simp [haRows]) dir fun we => by simp [HaRow.selects, cmdOf_and_three]]
  simp only [dirOf_cmdOf, slotOf_cmdOf]

theorem decode_accUnmapped (dir : Dir) (low : BitVec 5) :
    decode (dirPacket dir (0b1#1 ++ low) 0b00#2) = .ok (.accUnmapped dir low) := by
  have hsel : ∀ we, HaRow.selects ⟨0x080#9, 0x083#9, fun c w => .accUnmapped (dirOf c w) (lowSlotOf c)⟩
      (cmdOf we (0b1#1 ++ low) 0b00#2) = true := by
    unfold HaRow.selects
    decide +revert
  have hlow : ∀ we, lowSlotOf (cmdOf we (0b1#1 ++ low) 0b00#2) = low := by decide +revert
  rw [decode_dirPacket (by simp [haRows]) dir hsel]
  simp only [dirOf_cmdOf, hlow]

theorem decode_rdKey (i : Fin 8) : decode (encode (.rdKey i)) = .ok (.rdKey i) := by
  decide +revert

theorem decode_wrKey (i : Fin 8) (w : Word) : decode (encode (.wrKey i w)) = .ok (.wrKey i w) :=
  match i with
  | 0 | 1 | 2 | 3 | 4 | 5 | 6 | 7 => rfl

theorem decode_rdOut (k : Fin 16) : decode (encode (.rdOut k)) = .ok (.rdOut k) := by
  decide +revert

theorem decode_wrOut (k : Fin 16) (w : Word) : decode (encode (.wrOut k w)) = .ok (.wrOut k w) := by
  fin_cases k <;> rfl

theorem decode_seqFinal (r : BitVec 5) : decode (.seq (0b10#2 ++ r)) = .ok (.seqFinal r) := by
  decide +revert

/-- No operand is excluded: the ranges of RND (30_encoding.md R84) play no part in the decoding (log 12). -/
theorem decode_encode (i : Instr) : decode (encode i) = .ok i := by
  cases i with
  | accMisaligned01 dir slot => exact decode_accMisaligned01 dir slot
  | accMisaligned10 dir slot => exact decode_accMisaligned10 dir slot
  | accMisaligned11 dir slot => exact decode_accMisaligned11 dir slot
  | accUnmapped dir low => exact decode_accUnmapped dir low
  | rdKey i => exact decode_rdKey i
  | wrKey i w => exact decode_wrKey i w
  | rdOut k => exact decode_rdOut k
  | wrOut k w => exact decode_wrOut k w
  | seqCol r => exact decode_seqCol r
  | seqDiag r => exact decode_seqDiag r
  | seqFinal r => exact decode_seqFinal r
  | rdId | rdCtrl | rdStatus | rdErrinfo | rdCounter | rdNonce0 | rdNonce1 | rdNonce2 => rfl
  | wrId | wrCtrl | wrStatus | wrErrinfo | wrCounter | wrNonce0 | wrNonce1 | wrNonce2 => rfl

/-- Settles O4, one row of the table at a time. -/
theorem decodeOfEncodeIsTheInstruction : Obligations.DecodeOfEncodeIsTheInstruction :=
  fun i _ => decode_encode i

/-! ### Encode of decode -/

/-- What the row reads from a command it selects is encoded as that command (a read's data apart, log 16). -/
def EncodesBack (r : HaRow) : Prop :=
  ∀ (cmd : BitVec 9) (w : Word), r.selects cmd = true →
    encode (r.read cmd w) = dirPacket (dirOf cmd w) (slotOf cmd) (cmd.extractLsb' 0 2)

/-- A row whose mask covers all nine bits selects its match only. -/
theorem encodesBack_exact {cmd : BitVec 9} {read : BitVec 9 → Word → Instr}
    (h : ∀ w, encode (read cmd w) = dirPacket (dirOf cmd w) (slotOf cmd) (cmd.extractLsb' 0 2)) :
    EncodesBack ⟨cmd, 0x1FF#9, read⟩ := by
  intro c w hsel
  have hmask : c &&& 0x1FF#9 = c := BitVec.and_allOnes
  simp only [HaRow.selects, hmask, beq_iff_eq] at hsel
  exact hsel ▸ h w

theorem selects_low {cmd : BitVec 9} {low : BitVec 2} (hsel : (cmd &&& 0x003#9 == low.setWidth 9) = true) :
    cmd.extractLsb' 0 2 = low := by
  decide +kernel +revert

theorem selects_unmapped {cmd : BitVec 9} (hsel : (cmd &&& 0x083#9 == 0x080#9) = true) :
    slotOf cmd = 0b1#1 ++ lowSlotOf cmd ∧ cmd.extractLsb' 0 2 = 0b00#2 := by
  decide +kernel +revert

theorem selects_key {cmd : BitVec 9} {we : Bool}
    (hsel : (cmd &&& 0x1E3#9 == BitVec.ofBool we ++ 0x20#8) = true) :
    cmd.getLsbD 8 = we ∧ slotOf cmd = 0b001#3 ++ BitVec.ofNat 3 (keyIndexOf cmd).val ∧
    cmd.extractLsb' 0 2 = 0b00#2 := by
  decide +kernel +revert

theorem selects_out {cmd : BitVec 9} {we : Bool}
    (hsel : (cmd &&& 0x1C3#9 == BitVec.ofBool we ++ 0x40#8) = true) :
    cmd.getLsbD 8 = we ∧ slotOf cmd = 0b01#2 ++ BitVec.ofNat 4 (outIndexOf cmd).val ∧
    cmd.extractLsb' 0 2 = 0b00#2 := by
  decide +kernel +revert

theorem dirOf_read {cmd : BitVec 9} (h : cmd.getLsbD 8 = false) (w : Word) : dirOf cmd w = .rd := by
  rw [dirOf, h]
  rfl

theorem dirOf_write {cmd : BitVec 9} (h : cmd.getLsbD 8 = true) (w : Word) : dirOf cmd w = .wr w := by
  rw [dirOf, h]
  rfl

theorem encodesBack_accMisaligned01 :
    EncodesBack ⟨0x001#9, 0x003#9, fun c w => .accMisaligned01 (dirOf c w) (slotOf c)⟩ :=
  fun _ _ hsel => by rw [selects_low (low := 0b01#2) hsel]; rfl

theorem encodesBack_accMisaligned10 :
    EncodesBack ⟨0x002#9, 0x003#9, fun c w => .accMisaligned10 (dirOf c w) (slotOf c)⟩ :=
  fun _ _ hsel => by rw [selects_low (low := 0b10#2) hsel]; rfl

theorem encodesBack_accMisaligned11 :
    EncodesBack ⟨0x003#9, 0x003#9, fun c w => .accMisaligned11 (dirOf c w) (slotOf c)⟩ :=
  fun _ _ hsel => by rw [selects_low (low := 0b11#2) hsel]; rfl

theorem encodesBack_accUnmapped :
    EncodesBack ⟨0x080#9, 0x083#9, fun c w => .accUnmapped (dirOf c w) (lowSlotOf c)⟩ := by
  intro cmd w hsel
  obtain ⟨hslot, hlow⟩ := selects_unmapped hsel
  rw [hslot, hlow, encode]

theorem encodesBack_rdKey : EncodesBack ⟨0x020#9, 0x1E3#9, fun c _ => .rdKey (keyIndexOf c)⟩ := by
  intro cmd w hsel
  obtain ⟨hbit, hslot, hlow⟩ := selects_key (we := false) hsel
  rw [dirOf_read hbit, hslot, hlow]
  rfl

theorem encodesBack_wrKey : EncodesBack ⟨0x120#9, 0x1E3#9, fun c w => .wrKey (keyIndexOf c) w⟩ := by
  intro cmd w hsel
  obtain ⟨hbit, hslot, hlow⟩ := selects_key (we := true) hsel
  rw [dirOf_write hbit, hslot, hlow]
  rfl

theorem encodesBack_rdOut : EncodesBack ⟨0x040#9, 0x1C3#9, fun c _ => .rdOut (outIndexOf c)⟩ := by
  intro cmd w hsel
  obtain ⟨hbit, hslot, hlow⟩ := selects_out (we := false) hsel
  rw [dirOf_read hbit, hslot, hlow]
  rfl

theorem encodesBack_wrOut : EncodesBack ⟨0x140#9, 0x1C3#9, fun c w => .wrOut (outIndexOf c) w⟩ := by
  intro cmd w hsel
  obtain ⟨hbit, hslot, hlow⟩ := selects_out (we := true) hsel
  rw [dirOf_write hbit, hslot, hlow]
  rfl

theorem exists_selects (cmd : BitVec 9) : ∃ r ∈ haRows, r.selects cmd = true := by
  obtain ⟨r, hfind⟩ := Option.isSome_iff_exists.mp (haRows_cover cmd)
  exact ⟨r, List.mem_of_find?_eq_some hfind, List.find?_some (p := fun row : HaRow => row.selects cmd) hfind⟩

theorem haRows_encodesBack : ∀ r ∈ haRows, EncodesBack r := by
  simp only [haRows, List.forall_mem_cons, List.not_mem_nil, false_imp_iff, implies_true, and_true]
  refine ⟨encodesBack_accMisaligned01, encodesBack_accMisaligned10, encodesBack_accMisaligned11,
    encodesBack_accUnmapped, ?_, ?_, ?_, ?_, ?_, ?_, ?_, ?_, ?_, ?_, ?_, ?_, ?_, ?_, ?_, ?_,
    encodesBack_rdKey, encodesBack_wrKey, encodesBack_rdOut, encodesBack_wrOut⟩
  all_goals exact encodesBack_exact fun _ => rfl

theorem encode_of_decode_seq {v : BitVec 7} {i : Instr} (h : decode (.seq v) = .ok i) : encode i = .seq v := by
  have hall : ∀ v : BitVec 7, ∀ j ∈ (decode (.seq v)).toOption, encode j = .seq v := by decide
  exact hall v i (by rw [h]; rfl)

/-- Settles O5: the row that selects a command encodes back what it reads; the engine's packets are 128. -/
theorem encodeOfDecodeIsThePacket : Obligations.EncodeOfDecodeIsThePacket := by
  refine ⟨fun cmd w => ?_, fun v i h => encode_of_decode_seq h⟩
  obtain ⟨r, hmem, hsel⟩ := exists_selects cmd
  refine ⟨r.read cmd w, decode_of_selects hmem hsel w, ?_⟩
  rw [haRows_encodesBack r hmem cmd w hsel, dirPacket_fields]

/-! ### The rows partition the commands -/

/-- Settles O3: some row selects the command, and no two do, since their matches differ where both look. -/
theorem everyCommandSelectsExactlyOneRow : Obligations.EveryCommandSelectsExactlyOneRow := by
  intro cmd
  have hpairwise := haRows_pairwise_rowsDisjoint.filter fun r => r.selects cmd
  have hall : ∀ r ∈ haRows.filter (·.selects cmd), r.selects cmd = true := fun r hr => (List.mem_filter.mp hr).2
  obtain ⟨r, hr, hsel⟩ := exists_selects cmd
  have hmem : r ∈ haRows.filter (·.selects cmd) := List.mem_filter.mpr ⟨hr, hsel⟩
  match h : haRows.filter (·.selects cmd) with
  | [] => simp [h] at hmem
  | [_] => rw [h]; rfl
  | first :: second :: rest =>
    rw [h] at hpairwise hall
    have hdisjoint : RowsDisjoint first second := List.rel_of_pairwise_cons hpairwise (by simp)
    exact absurd (hall second (by simp)) (not_selects_of_rowsDisjoint hdisjoint (hall first (by simp)))

/-- Settles O2, by running the decoder on the nine words. -/
theorem tableWordsDecode : Obligations.TableWordsDecode := by
  unfold Obligations.TableWordsDecode
  decide

end Sys2Proof.Machine
end

section
/-! Proofs about turns and steps (20_memory.md R73) and about the engine: the steps of the sequencer as they stand in
PHASE and RND, and that they compute `Complete()` (41_block_function.md R142 to R146). -/

namespace Sys2Proof.Machine

/-! ### Turns -/

theorem withTurns_self {s : State} {ts : List Turn} (h : s.turns = ts) : { s with turns := ts } = s := by
  rw [← h]

/-- A step is the move of the agent whose turn it is, its turn consumed. -/
theorem step_eq_takeTurn (s : State) : step s = takeTurn (nextTurn s) { s with turns := s.turns.tail } := by
  rcases step_cases s with ⟨u, rest, hturns, hnext, hstep⟩ | ⟨hturns, hnext, hstep⟩
  · rw [hstep, hnext, hturns, List.tail_cons]
  · rw [hstep, hnext, hturns, List.tail_nil, withTurns_self hturns]

theorem hostMove_access {s : State} {cmd : BitVec 9} {w : Word} {rest : List HostOp}
    (h : s.host = .access cmd w :: rest) : hostMove s = runPacket (.ha cmd w) { s with host := rest } := by
  simp only [hostMove, h]

theorem hostMove_poll {s t : State} {addr : BitVec 8} {mask value : Word} {rest : List HostOp}
    (h : s.host = .poll addr mask value :: rest) (hrun : runPacket (pollPacket addr) s = .next t) :
    hostMove s = .next (pollNext mask value rest t) := by
  simp only [hostMove, h, hrun]

/-- Settles O1: each turn is its agent's move, which decodes and runs one packet. -/
theorem stepRunsTheDecodedInstruction : Obligations.StepRunsTheDecodedInstruction := by
  refine ⟨fun s ts cmd w rest i hturns hhost hdecode => ?_, fun s ts i hturns hdecode => ?_,
    fun s ts addr mask value rest i t hturns hhost hdecode hexec => ?_, fun s hturns => ?_⟩
  · rw [step_of_turns_cons hturns, takeTurn, hostMove_access (s := { s with turns := ts }) hhost,
      runPacket_of_decode hdecode]
  · rw [step_of_turns_cons hturns]
    exact runPacket_of_decode hdecode _
  · have hread : runPacket (pollPacket addr) { s with turns := ts } = .next t :=
      (runPacket_of_decode hdecode _).trans hexec
    rw [step_of_turns_cons hturns, takeTurn, hostMove_poll (s := { s with turns := ts }) hhost hread, pollNext]
  · have hgiven := step_of_turns_cons (s := { s with turns := [defaultTurn s] }) rfl
    rw [withTurns_self hturns] at hgiven
    rw [step_eq_takeTurn, hturns, List.tail_nil, withTurns_self hturns, nextTurn, hturns]
    exact hgiven.symm

/-! ### The engine's move in each PHASE -/

section Phase

variable {s : State}

theorem engineMove_of_idle (h : s.phase = 0b00#2) : engineMove s = .next s := by
  have hdecode : ∀ rnd : BitVec 5, decode (.seq (0b00#2 ++ rnd)) = .error .seqIdle := by decide
  simp only [engineMove, seqPacket, runPacket, h, hdecode]

theorem engineMove_of_unused (h : s.phase = 0b11#2) : engineMove s = .fault .phaseUnused := by
  have hdecode : ∀ rnd : BitVec 5, decode (.seq (0b11#2 ++ rnd)) = .error .seqUnused := by decide
  simp only [engineMove, seqPacket, runPacket, h, hdecode]

theorem engineMove_of_round_even (h : s.phase = 0b01#2) (heven : s.rnd.toNat % 2 = 0) :
    engineMove s = exec (.seqCol (s.rnd.extractLsb' 1 4)) s := by
  have hdecode : ∀ rnd : BitVec 5, rnd.toNat % 2 = 0 →
      decode (.seq (0b01#2 ++ rnd)) = .ok (.seqCol (rnd.extractLsb' 1 4)) := by decide
  rw [engineMove, seqPacket, h, runPacket_of_decode (hdecode s.rnd heven)]

theorem engineMove_of_round_odd (h : s.phase = 0b01#2) (hodd : s.rnd.toNat % 2 = 1) :
    engineMove s = exec (.seqDiag (s.rnd.extractLsb' 1 4)) s := by
  have hdecode : ∀ rnd : BitVec 5, rnd.toNat % 2 = 1 →
      decode (.seq (0b01#2 ++ rnd)) = .ok (.seqDiag (rnd.extractLsb' 1 4)) := by decide
  rw [engineMove, seqPacket, h, runPacket_of_decode (hdecode s.rnd hodd)]

theorem engineMove_of_final (h : s.phase = 0b10#2) :
    engineMove s = .next (publish (feedForward s.x s.s0) s) := by
  rw [engineMove, seqPacket, h, runPacket_of_decode (decode_seqFinal s.rnd), exec, execSeqFinal]

end Phase

theorem phase_cases (phase : BitVec 2) :
    phase = 0b00#2 ∨ phase = 0b01#2 ∨ phase = 0b10#2 ∨ phase = 0b11#2 := by
  decide +revert

/-- A move of the engine publishes in FINAL, and else concerns the sequencer's own registers only. -/
theorem engineMove_cases {s t : State} (h : engineMove s = .next t) :
    (s.phase = 0b10#2 ∧ t = publish (feedForward s.x s.s0) s) ∨
    (∃ x rnd phase, t = { s with x := x, rnd := rnd, phase := phase }) := by
  rcases phase_cases s.phase with hphase | hphase | hphase | hphase
  · rw [engineMove_of_idle hphase, Host.Outcome.next.injEq] at h
    exact .inr ⟨s.x, s.rnd, s.phase, h.symm⟩
  · rcases Nat.mod_two_eq_zero_or_one s.rnd.toNat with heven | hodd
    · rw [engineMove_of_round_even hphase heven, exec_seqCol, Host.Outcome.next.injEq] at h
      exact .inr ⟨_, _, _, h.symm⟩
    · rw [engineMove_of_round_odd hphase hodd, exec, execSeqDiag, Host.Outcome.next.injEq] at h
      exact .inr ⟨_, _, _, h.symm⟩
  · rw [engineMove_of_final hphase, Host.Outcome.next.injEq] at h
    exact .inl ⟨hphase, h.symm⟩
  · rw [engineMove_of_unused hphase] at h
    cases h

/-- Settles O33: PHASE decides, whatever RND is. -/
theorem engineWaitsWhenIdleAndFaultsWhenUnused : Obligations.EngineWaitsWhenIdleAndFaultsWhenUnused := by
  refine fun s ts hturns => ⟨fun hidle => ?_, fun hunused => ?_⟩
  · rw [step_of_turns_cons hturns]
    exact engineMove_of_idle hidle
  · rw [step_of_turns_cons hturns]
    exact engineMove_of_unused hunused

/-- Settles O27: the words of the feed-forward, published. -/
theorem seqFinalPublishesTheBlock : Obligations.SeqFinalPublishesTheBlock :=
  fun r s => ⟨decode_seqFinal r, feedForward s.x s.s0, feedForward_getElem s.x s.s0, rfl⟩

/-! ### The completion -/

theorem completeMove_of_busy {s : State} (h : s.busy = true) : completeMove s = .next (complete s) := by
  rw [completeMove, if_pos h]

theorem completeMove_of_idle {s : State} (h : s.busy = false) : completeMove s = .next s := by
  simp [completeMove, h]

/-- Settles O28: the two cases of BUSY. -/
theorem completePublishesTheBlock : Obligations.CompletePublishesTheBlock := by
  refine fun s ts hturns => ⟨fun hbusy => ?_, fun hidle => ?_⟩
  · rw [step_of_turns_cons hturns]
    exact completeMove_of_busy hbusy
  · rw [step_of_turns_cons hturns]
    exact completeMove_of_idle hidle

/-- An input state that begins with SIGMA is the initial state of its own key, counter and nonce words. -/
theorem initState_of_words {sigma : Vector Word 4} {y : Words16} (h0 : y[0] = sigma[0]) (h1 : y[1] = sigma[1])
    (h2 : y[2] = sigma[2]) (h3 : y[3] = sigma[3]) : initState sigma (keyWords y) y[12] (nonceWords y) = y := by
  rw [initState, ← h0, ← h1, ← h2, ← h3]
  exact words16_ext fun i => by fin_cases i <;> rfl

theorem blockWords_of_initState {sigma : Vector Word 4} {k : Vector Word 8} {c : Word} {n : Vector Word 3}
    {y : Words16} (h : initState sigma k c n = y) : blockWords sigma k c n = feedForward (roundTimes 20 y) y := by
  rw [blockWords, h, ← roundTimes_two_mul, Config.doubleRounds]

/-- S0 is an initial state (41_block_function.md R136), as it is once a START has latched it. -/
def LatchesSigma (s : State) : Prop :=
  initState Config.sigma (keyWords s.s0) s.s0[12] (nonceWords s.s0) = s.s0

theorem LatchesSigma.complete_eq {s : State} (h : LatchesSigma s) :
    complete s = publish (feedForward (roundTimes 20 s.s0) s.s0) s := by
  rw [complete, blockWords_of_initState h]

theorem latchesSigma_of_latched {s : State} (h : s.s0 = latchedInputs s) : LatchesSigma s := by
  rw [LatchesSigma, h]
  exact initState_of_words rfl rfl rfl rfl

/-! ### The rounds -/

/-- The state `s` with the sequencer where `n` rounds on S0 have been performed (41_block_function.md R143). -/
def afterRounds (n : Nat) (s : State) : State :=
  { s with
    x := roundTimes n s.s0, rnd := BitVec.ofNat 5 n
    phase := if n < 20 then 0b01#2 else 0b10#2 }

theorem afterRounds_phase_of_lt {n : Nat} (h : n < 20) (s : State) : (afterRounds n s).phase = 0b01#2 :=
  if_pos h

theorem afterRounds_twenty_phase (s : State) : (afterRounds 20 s).phase = 0b10#2 := by
  simp [afterRounds]

theorem afterRounds_rnd_toNat {n : Nat} (h : n ≤ 20) (s : State) : (afterRounds n s).rnd.toNat = n :=
  (BitVec.toNat_ofNat n 5).trans (Nat.mod_eq_of_lt (by omega))

/-- RND's parity picks the round that comes next, and the last one, at RND = 19, goes to FINAL. -/
theorem engineMove_afterRounds {n : Nat} (h : n < 20) (s : State) :
    engineMove (afterRounds n s) = .next (afterRounds (n + 1) s) := by
  have hphase := afterRounds_phase_of_lt h s
  have hrnd := afterRounds_rnd_toNat h.le s
  have hsucc : BitVec.ofNat 5 n + 1#5 = BitVec.ofNat 5 (n + 1) := (BitVec.ofNat_add n 1).symm
  rcases Nat.mod_two_eq_zero_or_one n with heven | hodd
  · have hround : n + 1 < 20 := by omega
    rw [engineMove_of_round_even hphase (hrnd.symm ▸ heven), exec_seqCol]
    simp only [afterRounds, roundTimes_succ_of_even heven, hsucc, h, hround]
  · rw [engineMove_of_round_odd hphase (hrnd.symm ▸ hodd)]
    by_cases hlast : n = 19
    · subst hlast
      rw [exec_seqDiag_of_last _ rfl]
      simp only [afterRounds, roundTimes_succ_of_odd hodd, Nat.lt_irrefl, if_false]
    · have hround : n + 1 < 20 := by omega
      have hnext : (afterRounds n s).rnd ≠ 19#5 := fun heq => hlast (hrnd.symm.trans (congrArg BitVec.toNat heq))
      rw [exec_seqDiag_of_not_last _ hnext]
      simp only [afterRounds, roundTimes_succ_of_odd hodd, hsucc, h, hround]

theorem engineMove_afterRounds_twenty {s : State} (h : LatchesSigma s) :
    engineMove (afterRounds 20 s) = .next { complete s with x := roundTimes 20 s.s0, rnd := 20#5 } := by
  rw [engineMove_of_final (afterRounds_twenty_phase s), h.complete_eq]
  simp only [afterRounds, publish]

/-! ### The sequencer's run -/

/-- `m` engine turns take the sequencer `m` rounds further. -/
theorem runSteps_engine_rounds (m n : Nat) (s : State) (ts : List Turn) (h : n + m ≤ 20) :
    runSteps m (afterRounds n { s with turns := List.replicate m .engine ++ ts }) =
      .next (afterRounds (n + m) { s with turns := ts }) := by
  induction m generalizing n with
  | zero => rfl
  | succ m ih =>
    have hstep : step (afterRounds n { s with turns := List.replicate (m + 1) .engine ++ ts }) =
        .next (afterRounds (n + 1) { s with turns := List.replicate m .engine ++ ts }) :=
      engineMove_afterRounds (by omega) { s with turns := List.replicate m .engine ++ ts }
    rw [runSteps_succ_of_next hstep, ih (n + 1) (by omega), Nat.add_right_comm, Nat.add_assoc]

/-- Settles O30: 20 turns perform the rounds, and the last publishes their feed-forward. -/
theorem sequencerComputesComplete : Obligations.SequencerComputesComplete := by
  intro s ts hphase hrnd hx h0 h1 h2 h3
  have hlatch : LatchesSigma { s with turns := ts } := initState_of_words h0 h1 h2 h3
  have hstart : { s with turns := List.replicate 21 Turn.engine ++ ts } =
      afterRounds 0 { s with turns := List.replicate 20 Turn.engine ++ (.engine :: ts) } := by
    unfold afterRounds
    rw [roundTimes, ← hx, if_pos (by decide), ← hphase, ← hrnd]
    rfl
  have hlast : step (afterRounds 20 { s with turns := .engine :: ts }) =
      .next { complete s with turns := ts, x := roundTimes 20 s.s0, rnd := 20#5 } :=
    engineMove_afterRounds_twenty hlatch
  rw [hstart, runSteps_add 20 1 (runSteps_engine_rounds 20 0 s (.engine :: ts) (by decide)),
    runSteps_succ_of_next hlast]
  rfl

end Sys2Proof.Machine
end

section
/-! Proofs about what one access, one move of the host and one step can do, and the invariant that every step keeps
(10_state.md R33 to R41, 20_memory.md R76, 70_reset_and_hazards.md R195). -/

namespace Sys2Proof.Machine

/-! ### What an access can do -/

/-- The state a write of STATUS with the word `w` leaves (40_host_commands.md R105). -/
def afterStatusWrite (w : Word) (s : State) : State :=
  acceptWrite { s with
    done := if clrDoneField w then false else s.done
    err := if clrErrField w then false else s.err
    ecode := if clrErrField w then 0#3 else s.ecode
    eaddr := if clrErrField w then 0#8 else s.eaddr
    ewe := if clrErrField w then false else s.ewe }

theorem exec_wrStatus (w : Word) (s : State) : exec (.wrStatus w) s = .next (afterStatusWrite w s) := by
  obtain ⟨-, hexec⟩ := wrStatusClearsWhatItNames w s
  exact hexec

/-- The writes of one input register (slots 4 to 15: 20_memory.md R61). -/
inductive InputWrite : (State → State) → Prop
  | counter (v : Word) : InputWrite (setCounter v)
  | nonce (j : Fin 3) (v : Word) : InputWrite (setNonce j v)
  | key (i : Fin 8) (v : Word) : InputWrite (setKey i v)

/-- Everything that `Access(we, addr, w)` can do to a state (40_host_commands.md R100). -/
inductive AccessEffect (we : Bool) (addr : BitVec 8) (w : Word) (s : State) : State → Prop
  | answer (v : Word) : AccessEffect we addr w s (acceptRead v s)
  | error (c : Cause) : AccessEffect we addr w s (rejected (causeCode c) addr we s)
  | enables (doneIe errIe : Bool) : AccessEffect we addr w s (acceptWrite (setEnables doneIe errIe s))
  | start (hwe : we = true) (haddr : addr = ctrlAddr) (hstart : startField w = true) (hidle : s.busy = false) :
      AccessEffect we addr w s (afterStart w s)
  | status (hwe : we = true) (haddr : addr = statusAddr) : AccessEffect we addr w s (afterStatusWrite w s)
  | input {f : State → State} (hinput : InputWrite f) (hidle : s.busy = false) :
      AccessEffect we addr w s (acceptWrite (f s))

/-- The outcome is a next state that the access can lead to. -/
def HasEffect (we : Bool) (addr : BitVec 8) (w : Word) (s : State) (o : Host.Outcome State Fault Refusal) : Prop :=
  ∃ t, o = .next t ∧ AccessEffect we addr w s t

theorem hasEffect_accessError (c : Cause) (we : Bool) (addr : BitVec 8) (w : Word) (s : State) :
    HasEffect we addr w s (.next (accessError c addr we s)) :=
  ⟨_, rfl, accessError_eq c addr we s ▸ .error c⟩

theorem hasEffect_guardedWrite {f : State → State} (hinput : InputWrite f) (addr : BitVec 8) (w : Word) (s : State) :
    HasEffect true addr w s (.next (guardedWrite addr f s)) := by
  rcases guardedWrite_cases addr f s with ⟨-, hwrite⟩ | ⟨hidle, hwrite⟩
  · exact ⟨_, rfl, hwrite ▸ .error .busyWrite⟩
  · exact ⟨_, rfl, hwrite ▸ .input hinput hidle⟩

theorem hasEffect_wrCtrl (w : Word) (s : State) : HasEffect true ctrlAddr w s (exec (.wrCtrl w) s) := by
  rcases execWrCtrl_cases w s with ⟨-, -, hwrite⟩ | ⟨hstart, hidle, hwrite⟩ | ⟨-, hwrite⟩
  · exact ⟨_, hwrite, .error .busyStart⟩
  · exact ⟨_, hwrite, .start rfl rfl hstart hidle⟩
  · exact ⟨_, hwrite, .enables _ _⟩

/-- A register whose read is accepted has the effects of its write. -/
theorem hasEffect_register {addr : BitVec 8} {w v : Word} {s : State} (we : Bool)
    (hread : access false addr w s = .next (acceptRead v s)) (hwrite : HasEffect true addr w s (access true addr w s)) :
    HasEffect we addr w s (access we addr w s) := by
  cases we
  · exact ⟨_, hread, .answer v⟩
  · exact hwrite

theorem hasEffect_access (we : Bool) (addr : BitVec 8) (w : Word) (s : State) :
    HasEffect we addr w s (access we addr w s) := by
  rcases address_cases addr with
    hlow | ⟨low, rfl⟩ | rfl | rfl | rfl | rfl | rfl | ⟨j, rfl⟩ | ⟨i, rfl⟩ | ⟨k, rfl⟩
  · exact ⟨_, access_misaligned we w s hlow, .error .misaligned⟩
  · rw [access_unmapped]
    exact hasEffect_accessError .unmapped we _ w s
  · exact hasEffect_register (addr := idAddr) we rfl (hasEffect_accessError .readOnly true idAddr w s)
  · exact hasEffect_register (addr := ctrlAddr) we rfl (hasEffect_wrCtrl w s)
  · exact hasEffect_register (addr := statusAddr) we rfl ⟨_, exec_wrStatus w s, .status rfl rfl⟩
  · exact hasEffect_register (addr := errinfoAddr) we rfl (hasEffect_accessError .readOnly true errinfoAddr w s)
  · exact hasEffect_register (addr := counterAddr) we rfl (hasEffect_guardedWrite (.counter w) counterAddr w s)
  · exact hasEffect_register we (access_nonceAddr_read j w s)
      (access_nonceAddr_write j w s ▸ hasEffect_guardedWrite (.nonce j w) _ w s)
  · exact hasEffect_register we (access_keyAddr_read i w s)
      (access_keyAddr_write i w s ▸ hasEffect_guardedWrite (.key i w) _ w s)
  · exact hasEffect_register we (access_outAddr_read k w s)
      (access_outAddr_write k w s ▸ hasEffect_accessError .readOnly true _ w s)

/-! ### What a move of the host, and a step, can do -/

/-- Everything a move of the host can do. -/
inductive HostEffect (s : State) : State → Prop
  | wait : HostEffect s s
  | access {cmd : BitVec 9} {w : Word} {rest : List HostOp} {t : State} (hhost : s.host = .access cmd w :: rest)
      (heffect : AccessEffect (cmd.getLsbD 8) (cmd.extractLsb' 0 8) w { s with host := rest } t) : HostEffect s t
  | poll {addr : BitVec 8} {t : State} (mask value : Word) (rest : List HostOp)
      (heffect : AccessEffect false addr 0#32 s t) : HostEffect s (pollNext mask value rest t)

theorem hostMove_effect (s : State) : ∃ t, hostMove s = .next t ∧ HostEffect s t := by
  match hhost : s.host with
  | [] => exact ⟨s, by rw [hostMove, hhost], .wait⟩
  | .access cmd w :: rest =>
    obtain ⟨t, haccess, heffect⟩ := hasEffect_access (cmd.getLsbD 8) (cmd.extractLsb' 0 8) w { s with host := rest }
    exact ⟨t, by rw [hostMove_access hhost, runPacket_ha_eq_access, haccess], .access hhost heffect⟩
  | .poll addr mask value :: rest =>
    obtain ⟨t, haccess, heffect⟩ := hasEffect_access false addr 0#32 s
    exact ⟨_, hostMove_poll hhost haccess, .poll mask value rest heffect⟩

/-- A POLL that is done or not concerns the host's program only. -/
theorem pollNext_eq (mask value : Word) (rest : List HostOp) (t : State) :
    ∃ host, pollNext mask value rest t = { t with host := host } := by
  unfold pollNext
  split
  · exact ⟨rest, rfl⟩
  · exact ⟨t.host, rfl⟩

/-- Everything a step can do, its turn consumed. -/
theorem step_effect {s t : State} (h : step s = .next t) :
    (nextTurn s = .host ∧ HostEffect { s with turns := s.turns.tail } t) ∨
    (nextTurn s = .engine ∧ engineMove { s with turns := s.turns.tail } = .next t) ∨
    (nextTurn s = .complete ∧ completeMove { s with turns := s.turns.tail } = .next t) ∨
    (nextTurn s = .reset false ∧ t = resetEdge { s with turns := s.turns.tail }) := by
  rw [step_eq_takeTurn] at h
  match hturn : nextTurn s with
  | .host =>
    obtain ⟨u, hmove, heffect⟩ := hostMove_effect { s with turns := s.turns.tail }
    rw [hturn, takeTurn, hmove, Host.Outcome.next.injEq] at h
    exact .inl ⟨rfl, h ▸ heffect⟩
  | .engine => exact .inr (.inl ⟨rfl, by rwa [hturn] at h⟩)
  | .complete => exact .inr (.inr (.inl ⟨rfl, by rwa [hturn] at h⟩))
  | .reset true =>
    rw [hturn] at h
    cases h
  | .reset false =>
    rw [hturn] at h
    exact .inr (.inr (.inr ⟨rfl, (Host.Outcome.next.inj h).symm⟩))

/-! ### The running computation -/

/-- The computation stands in `t` as in `s`: the sequencer, the latched inputs and OUT; DONE has not risen; and while
BUSY the input registers are those that were latched (70_reset_and_hazards.md R195). -/
structure KeepsComputation (s t : State) : Prop where
  busy : t.busy = s.busy
  phase : t.phase = s.phase
  rnd : t.rnd = s.rnd
  s0 : t.s0 = s.s0
  x : t.x = s.x
  out : t.out = s.out
  done : t.done = true → s.done = true
  inputs : s.busy = true → latchedInputs t = latchedInputs s

theorem keepsComputation_inputWrite {f : State → State} (hinput : InputWrite f) {s : State} (hidle : s.busy = false) :
    KeepsComputation s (acceptWrite (f s)) := by
  have hnot : ¬ s.busy = true := by simp [hidle]
  cases hinput <;> exact ⟨rfl, rfl, rfl, rfl, rfl, rfl, id, fun hbusy => absurd hbusy hnot⟩

theorem keepsComputation_afterStatusWrite (w : Word) (s : State) : KeepsComputation s (afterStatusWrite w s) where
  busy := rfl
  phase := rfl
  rnd := rfl
  s0 := rfl
  x := rfl
  out := rfl
  done hdone := by
    simp only [afterStatusWrite, acceptWrite_done] at hdone
    split at hdone
    · cases hdone
    · exact hdone
  inputs _ := rfl

/-- An access leaves the computation alone, except an accepted START. -/
theorem AccessEffect.keeps_or_starts {we : Bool} {addr : BitVec 8} {w : Word} {s t : State}
    (h : AccessEffect we addr w s t) :
    KeepsComputation s t ∨
    (we = true ∧ addr = ctrlAddr ∧ startField w = true ∧ s.busy = false ∧ t = afterStart w s) := by
  cases h with
  | answer | error | enables => exact .inl ⟨rfl, rfl, rfl, rfl, rfl, rfl, id, fun _ => rfl⟩
  | status => exact .inl (keepsComputation_afterStatusWrite w s)
  | input hinput hidle => exact .inl (keepsComputation_inputWrite hinput hidle)
  | start hwe haddr hstart hidle => exact .inr ⟨hwe, haddr, hstart, hidle, rfl⟩

theorem cmd_of_fields {cmd : BitVec 9} (hwe : cmd.getLsbD 8 = true) {addr : BitVec 8}
    (haddr : cmd.extractLsb' 0 8 = addr) : cmd = 1#1 ++ addr := by
  have hcmd : ∀ cmd : BitVec 9, cmd.getLsbD 8 = true → cmd = 1#1 ++ cmd.extractLsb' 0 8 := by decide +kernel
  exact haddr ▸ hcmd cmd hwe

/-- The host's move leaves the computation alone, except where it is an accepted START. -/
theorem HostEffect.keeps_or_starts {s t : State} (h : HostEffect s t) :
    KeepsComputation s t ∨
    ∃ w rest, s.host = .access 0x104#9 w :: rest ∧ startField w = true ∧ s.busy = false ∧
      t = afterStart w { s with host := rest } := by
  cases h with
  | wait => exact .inl ⟨rfl, rfl, rfl, rfl, rfl, rfl, id, fun _ => rfl⟩
  | @access cmd w rest t hhost heffect =>
    rcases heffect.keeps_or_starts with hkeeps | ⟨hwe, haddr, hstart, hidle, ht⟩
    · exact .inl { hkeeps with }
    · obtain rfl : cmd = 0x104#9 := cmd_of_fields hwe haddr
      exact .inr ⟨w, rest, hhost, hstart, hidle, ht⟩
  | @poll addr t mask value rest heffect =>
    obtain ⟨host, hpoll⟩ := pollNext_eq mask value rest t
    rcases heffect.keeps_or_starts with hkeeps | ⟨hwe, -⟩
    · exact .inl (hpoll ▸ { hkeeps with })
    · cases hwe

/-! ### The invariant of the computation -/

/-- The parts of the invariant that speak of the computation. -/
structure BlockOk (s : State) : Prop where
  phase : PhaseOk s
  done : DoneOk s
  latch : LatchOk s
  rounds : RoundsOk s
  result : ResultOk s

theorem inv_iff (s : State) : Inv s ↔ BlockOk s ∧ ErrorOk s :=
  ⟨fun ⟨phase, error, done, latch, rounds, result⟩ => ⟨⟨phase, done, latch, rounds, result⟩, error⟩,
    fun ⟨⟨phase, done, latch, rounds, result⟩, error⟩ => ⟨phase, error, done, latch, rounds, result⟩⟩

theorem BlockOk.of_keeps {s t : State} (hs : BlockOk s) (h : KeepsComputation s t) : BlockOk t := by
  obtain ⟨hphase, hdone, hlatch, hrounds, hresult⟩ := hs
  obtain ⟨busy, phase, rnd, s0, x, out, done, inputs⟩ := h
  constructor
  · rwa [PhaseOk, busy, phase, rnd]
  · intro hbusy
    exact Bool.eq_false_iff.mpr fun h => Bool.eq_false_iff.mp (hdone (busy ▸ hbusy)) (done h)
  · intro hbusy
    rw [busy] at hbusy
    rw [s0, inputs hbusy, hlatch hbusy]
  · rwa [RoundsOk, busy, x, rnd, s0]
  · intro h
    rw [out, s0, hresult (done h)]

/-- A START makes its own computation, whatever the one before was. -/
theorem blockOk_afterStart (w : Word) (s : State) : BlockOk (afterStart w s) where
  phase := by simp [PhaseOk, afterStart]
  done _ := rfl
  latch _ := rfl
  rounds _ := rfl
  result h := by cases h

theorem blockOk_resetEdge (s : State) : BlockOk (resetEdge s) where
  phase := by simp [PhaseOk, resetEdge]
  done h := by cases h
  latch h := by cases h
  rounds h := by cases h
  result h := by cases h

/-- Where X and RND stand after a completion (log 17) plays no part. -/
theorem blockOk_complete (s : State) (x : Words16) (rnd : BitVec 5) :
    BlockOk { complete s with x := x, rnd := rnd } where
  phase := by simp [PhaseOk]
  done h := by cases h
  latch h := by cases h
  rounds h := by cases h
  result _ := rfl

/-- While BUSY the whole computation is in RND: the state is that of its latched inputs after RND rounds. -/
theorem BlockOk.afterRounds_eq {s : State} (hs : BlockOk s) (hbusy : s.busy = true) :
    s.rnd.toNat ≤ 20 ∧ afterRounds s.rnd.toNat s = s := by
  obtain ⟨hiff, -, hround, hfinal⟩ := hs.phase
  have hx : roundTimes s.rnd.toNat s.s0 = s.x := (hs.rounds hbusy).symm
  obtain ⟨hle, hphase⟩ : s.rnd.toNat ≤ 20 ∧ (if s.rnd.toNat < 20 then 0b01#2 else 0b10#2) = s.phase := by
    rcases hiff.mp hbusy with h | h
    · exact ⟨(hround h).le, by rw [if_pos (hround h), h]⟩
    · exact ⟨(hfinal h).le, by rw [hfinal h, if_neg (Nat.lt_irrefl 20), h]⟩
  refine ⟨hle, ?_⟩
  rw [afterRounds, hx, hphase, BitVec.ofNat_toNat, BitVec.setWidth_eq]

theorem BlockOk.afterRounds {s : State} (hs : BlockOk s) (hbusy : s.busy = true) {n : Nat} (hn : n ≤ 20) :
    BlockOk (afterRounds n s) where
  phase := by
    have hrnd := afterRounds_rnd_toNat hn s
    have hbusy' : (Machine.afterRounds n s).busy = true := hbusy
    rcases hn.lt_or_eq with hlt | rfl
    · simp [PhaseOk, hbusy', hrnd, afterRounds_phase_of_lt hlt, hlt]
    · simp [PhaseOk, hbusy', hrnd, afterRounds_twenty_phase]
  done := hs.done
  latch := hs.latch
  rounds _ := by rw [afterRounds_rnd_toNat hn]; rfl
  result := hs.result

theorem BlockOk.latchesSigma {s : State} (hs : BlockOk s) (hbusy : s.busy = true) : LatchesSigma s :=
  latchesSigma_of_latched (hs.latch hbusy)

/-- Idle, the engine waits; in a round it performs the round; after the last it completes. -/
theorem BlockOk.engineMove {s t : State} (hs : BlockOk s) (h : engineMove s = .next t) : BlockOk t := by
  cases hbusy : s.busy
  · have hidle : s.phase = 0b00#2 := by
      obtain ⟨hiff, hunused, -, -⟩ := hs.phase
      rcases phase_cases s.phase with hphase | hphase | hphase | hphase
      · exact hphase
      · simp [hbusy, hphase] at hiff
      · simp [hbusy, hphase] at hiff
      · exact absurd hphase hunused
    rw [engineMove_of_idle hidle, Host.Outcome.next.injEq] at h
    exact h ▸ hs
  · obtain ⟨hn, hrounds⟩ := hs.afterRounds_eq hbusy
    rw [← hrounds] at h
    rcases hn.lt_or_eq with hlt | hlast
    · rw [engineMove_afterRounds hlt, Host.Outcome.next.injEq] at h
      exact h ▸ hs.afterRounds hbusy hlt
    · rw [hlast, engineMove_afterRounds_twenty (hs.latchesSigma hbusy), Host.Outcome.next.injEq] at h
      exact h ▸ blockOk_complete s _ _

theorem completeMove_cases {s t : State} (h : completeMove s = .next t) :
    (s.busy = true ∧ t = complete s) ∨ (s.busy = false ∧ t = s) := by
  cases hbusy : s.busy
  · rw [completeMove_of_idle hbusy, Host.Outcome.next.injEq] at h
    exact .inr ⟨rfl, h.symm⟩
  · rw [completeMove_of_busy hbusy, Host.Outcome.next.injEq] at h
    exact .inl ⟨rfl, h.symm⟩

theorem BlockOk.completeMove {s t : State} (hs : BlockOk s) (h : completeMove s = .next t) : BlockOk t := by
  rcases completeMove_cases h with ⟨-, rfl⟩ | ⟨-, rfl⟩
  · exact blockOk_complete s s.x s.rnd
  · exact hs

theorem BlockOk.hostEffect {s t : State} (hs : BlockOk s) (h : HostEffect s t) : BlockOk t := by
  rcases h.keeps_or_starts with hkeeps | ⟨w, rest, -, -, -, rfl⟩
  · exact hs.of_keeps hkeeps
  · exact blockOk_afterStart w _

theorem BlockOk.step {s t : State} (hs : BlockOk s) (h : step s = .next t) : BlockOk t := by
  have hturn : BlockOk { s with turns := s.turns.tail } := { hs with }
  rcases step_effect h with ⟨-, heffect⟩ | ⟨-, hmove⟩ | ⟨-, hmove⟩ | ⟨-, rfl⟩
  · exact hturn.hostEffect heffect
  · exact hturn.engineMove hmove
  · exact hturn.completeMove hmove
  · exact blockOk_resetEdge _

/-! ### The error record -/

/-- The error record stands in `t` as in `s`. -/
structure KeepsError (s t : State) : Prop where
  err : t.err = s.err
  ecode : t.ecode = s.ecode
  eaddr : t.eaddr = s.eaddr
  ewe : t.ewe = s.ewe

/-- The access was rejected, and its cause recorded where it is the first error (60_exceptions.md R162, R163). -/
structure RecordsError (s t : State) : Prop where
  err : t.err = true
  errOut : t.errOut = true
  ecode : ∃ c, t.ecode = if s.err then s.ecode else causeCode c

/-- The error record is clear (40_host_commands.md R105). -/
structure ClearsError (t : State) : Prop where
  err : t.err = false
  ecode : t.ecode = 0#3
  eaddr : t.eaddr = 0#8
  ewe : t.ewe = false

theorem afterStatusWrite_error (w : Word) (s : State) :
    KeepsError s (afterStatusWrite w s) ∨ (clrErrField w = true ∧ ClearsError (afterStatusWrite w s)) := by
  cases hclr : clrErrField w
  · left
    constructor <;> simp [afterStatusWrite, hclr]
  · right
    exact ⟨rfl, by constructor <;> simp [afterStatusWrite, hclr]⟩

theorem AccessEffect.error_cases {we : Bool} {addr : BitVec 8} {w : Word} {s t : State}
    (h : AccessEffect we addr w s t) :
    KeepsError s t ∨ RecordsError s t ∨
    (we = true ∧ addr = statusAddr ∧ clrErrField w = true ∧ ClearsError t) := by
  cases h with
  | answer | enables | start => exact .inl ⟨rfl, rfl, rfl, rfl⟩
  | error c => exact .inr (.inl ⟨rfl, rfl, c, rfl⟩)
  | input hinput => cases hinput <;> exact .inl ⟨rfl, rfl, rfl, rfl⟩
  | status hwe haddr =>
    rcases afterStatusWrite_error w s with hkeeps | ⟨hclr, hclears⟩
    · exact .inl hkeeps
    · exact .inr (.inr ⟨hwe, haddr, hclr, hclears⟩)

theorem HostEffect.error_cases {s t : State} (h : HostEffect s t) :
    KeepsError s t ∨ RecordsError s t ∨
    ((∃ w rest, s.host = .access 0x108#9 w :: rest ∧ clrErrField w = true) ∧ ClearsError t) := by
  cases h with
  | wait => exact .inl ⟨rfl, rfl, rfl, rfl⟩
  | @access cmd w rest t hhost heffect =>
    rcases heffect.error_cases with hkeeps | hrecords | ⟨hwe, haddr, hclr, hclears⟩
    · exact .inl { hkeeps with }
    · exact .inr (.inl { hrecords with })
    · obtain rfl : cmd = 0x108#9 := cmd_of_fields hwe haddr
      exact .inr (.inr ⟨⟨w, rest, hhost, hclr⟩, hclears⟩)
  | @poll addr t mask value rest heffect =>
    obtain ⟨host, hpoll⟩ := pollNext_eq mask value rest t
    rw [hpoll]
    rcases heffect.error_cases with hkeeps | hrecords | ⟨hwe, -⟩
    · exact .inl { hkeeps with }
    · exact .inr (.inl { hrecords with })
    · cases hwe

/-- Everything a step does to the error record: the host's rejected access records, its WR_STATUS and a reset clear. -/
theorem step_error_cases {s t : State} (h : step s = .next t) :
    KeepsError s t ∨ (nextTurn s = .host ∧ RecordsError s t) ∨
    ((nextTurn s = .reset false ∨
      (nextTurn s = .host ∧ ∃ w rest, s.host = .access 0x108#9 w :: rest ∧ clrErrField w = true)) ∧ ClearsError t) := by
  rcases step_effect h with ⟨hturn, heffect⟩ | ⟨-, hmove⟩ | ⟨-, hmove⟩ | ⟨hturn, rfl⟩
  · rcases heffect.error_cases with hkeeps | hrecords | ⟨hwrites, hclears⟩
    · exact .inl { hkeeps with }
    · exact .inr (.inl ⟨hturn, { hrecords with }⟩)
    · exact .inr (.inr ⟨.inr ⟨hturn, hwrites⟩, hclears⟩)
  · rcases engineMove_cases hmove with ⟨-, rfl⟩ | ⟨x, rnd, phase, rfl⟩ <;> exact .inl ⟨rfl, rfl, rfl, rfl⟩
  · rcases completeMove_cases hmove with ⟨-, rfl⟩ | ⟨-, rfl⟩ <;> exact .inl ⟨rfl, rfl, rfl, rfl⟩
  · exact .inr (.inr ⟨.inl hturn, ⟨rfl, rfl, rfl, rfl⟩⟩)

theorem causeCode_toNat (c : Cause) : 1 ≤ (causeCode c).toNat ∧ (causeCode c).toNat ≤ 5 := by
  cases c <;> decide

theorem errorOk_step {s t : State} (hs : ErrorOk s) (h : step s = .next t) : ErrorOk t := by
  have ⟨_, hcode⟩ := hs
  rcases step_error_cases h with ⟨err, ecode, eaddr, ewe⟩ | ⟨-, err, -, c, ecode⟩ | ⟨-, err, ecode, eaddr, ewe⟩
  · rwa [ErrorOk, err, ecode, eaddr, ewe]
  · refine ⟨fun hclear => absurd (err.symm.trans hclear) Bool.noConfusion, fun _ => ?_⟩
    rw [ecode]
    split
    · exact hcode ‹_›
    · exact causeCode_toNat c
  · exact ⟨fun _ => ⟨ecode, eaddr, ewe⟩, fun herr => absurd (err.symm.trans herr) Bool.false_ne_true⟩

/-! ### The whole machine -/

/-- Settles O37: idle, with nothing pending and no error recorded. -/
theorem resetStateMeetsTheInvariant : Obligations.ResetStateMeetsTheInvariant := by
  unfold Obligations.ResetStateMeetsTheInvariant
  decide

/-- Settles O38: the computation's part and the error record's part are each kept. -/
theorem everyStepKeepsTheInvariant : Obligations.EveryStepKeepsTheInvariant := by
  intro s t hinv hstep
  obtain ⟨hblock, herror⟩ := (inv_iff s).mp hinv
  exact (inv_iff t).mpr ⟨hblock.step hstep, errorOk_step herror hstep⟩

/-- Settles O40: of the moves, only a completion, SEQ_FINAL and a reset write OUT. -/
theorem onlyACompletionChangesOut : Obligations.OnlyACompletionChangesOut := by
  intro s t hstep hout
  rcases step_effect hstep with ⟨-, heffect⟩ | ⟨hturn, hmove⟩ | ⟨hturn, hmove⟩ | ⟨hturn, -⟩
  · rcases heffect.keeps_or_starts with hkeeps | ⟨w, rest, -, -, -, rfl⟩
    · exact absurd hkeeps.out hout
    · exact absurd rfl hout
  · rcases engineMove_cases hmove with ⟨hphase, rfl⟩ | ⟨x, rnd, phase, rfl⟩
    · exact .inr (.inl ⟨hturn, hphase, rfl⟩)
    · exact absurd rfl hout
  · rcases completeMove_cases hmove with ⟨hbusy, rfl⟩ | ⟨-, rfl⟩
    · exact .inl ⟨hturn, hbusy, rfl⟩
    · exact absurd rfl hout
  · exact .inr (.inr hturn)

/-- Everything a step does to BUSY: an accepted START raises it, a completion, SEQ_FINAL and a reset lower it. -/
theorem step_busy_cases {s t : State} (h : step s = .next t) :
    t.busy = s.busy ∨
    (t.busy = true ∧ nextTurn s = .host ∧
      ∃ w rest, s.host = .access 0x104#9 w :: rest ∧ startField w = true ∧ t.errOut = false) ∨
    (t.busy = false ∧
      (nextTurn s = .complete ∨ (nextTurn s = .engine ∧ s.phase = 0b10#2) ∨ nextTurn s = .reset false)) := by
  rcases step_effect h with ⟨hturn, heffect⟩ | ⟨hturn, hmove⟩ | ⟨hturn, hmove⟩ | ⟨hturn, rfl⟩
  · rcases heffect.keeps_or_starts with hkeeps | ⟨w, rest, hhost, hstart, -, rfl⟩
    · exact .inl hkeeps.busy
    · exact .inr (.inl ⟨rfl, hturn, w, rest, hhost, hstart, rfl⟩)
  · rcases engineMove_cases hmove with ⟨hphase, rfl⟩ | ⟨x, rnd, phase, rfl⟩
    · exact .inr (.inr ⟨rfl, .inr (.inl ⟨hturn, hphase⟩)⟩)
    · exact .inl rfl
  · rcases completeMove_cases hmove with ⟨-, rfl⟩ | ⟨-, rfl⟩
    · exact .inr (.inr ⟨rfl, .inl hturn⟩)
    · exact .inl rfl
  · exact .inr (.inr ⟨rfl, .inr (.inr hturn)⟩)

/-- Settles O41, from the three things a step can do to BUSY. -/
theorem onlyStartAndCompletionChangeBusy : Obligations.OnlyStartAndCompletionChangeBusy := by
  intro s t hstep
  rcases step_busy_cases hstep with hstands | ⟨hrise, hturn, w, rest, hhost, hstart, herr⟩ | ⟨hfall, hcause⟩
  · exact ⟨fun hs ht => by simp [hstands, hs] at ht, fun hs ht => by simp [hstands, hs] at ht⟩
  · exact ⟨fun _ _ => ⟨hturn, w, rest, hhost, hstart, herr⟩, fun _ ht => by simp [hrise] at ht⟩
  · exact ⟨fun _ ht => by simp [hfall] at ht, fun _ _ => hcause⟩

/-- Settles O42, from the three things a step can do to the error record. -/
theorem errIsSticky : Obligations.ErrIsSticky := by
  intro s t hstep
  rcases step_error_cases hstep with ⟨err, -⟩ | ⟨hturn, err, errOut, -⟩ | ⟨hcause, err, -⟩
  · exact ⟨fun hs ht => by simp [err, hs] at ht, fun hs ht => by simp [err, hs] at ht⟩
  · exact ⟨fun _ _ => ⟨hturn, errOut⟩, fun _ ht => by simp [err] at ht⟩
  · exact ⟨fun _ ht => by simp [err] at ht, fun _ _ => hcause⟩

/-! ### The sequencer and the completion, under the invariant -/

/-- Settles O29: in FINAL, X is S0 after its 20 rounds, and S0 an initial state. -/
theorem seqFinalIsComplete : Obligations.SeqFinalIsComplete := by
  intro s r hinv hfinal
  obtain ⟨hblock, -⟩ := (inv_iff s).mp hinv
  obtain ⟨hiff, -, -, hlast⟩ := hblock.phase
  have hbusy : s.busy = true := hiff.mpr (.inr hfinal)
  have hx : s.x = roundTimes 20 s.s0 := hlast hfinal ▸ hblock.rounds hbusy
  rw [exec, execSeqFinal, hx, (hblock.latchesSigma hbusy).complete_eq]

/-- With no turns given the engine moves while it has rounds to perform (log 1). -/
theorem step_default_afterRounds {s : State} (hturns : s.turns = []) (n : Nat) :
    step (afterRounds n s) = engineMove (afterRounds n s) := by
  have hphase : (afterRounds n s).phase ≠ 0b00#2 := by
    simp only [afterRounds]
    split <;> decide
  have hturn : nextTurn (afterRounds n s) = .engine := by
    simp only [nextTurn, show (afterRounds n s).turns = [] from hturns, defaultTurn, if_neg hphase]
  rw [step_eq_takeTurn, hturn, withTurns_self]
  · rfl
  · simp [afterRounds, hturns]

theorem runSteps_default_rounds {s : State} (hturns : s.turns = []) (m n : Nat) (h : n + m ≤ 20) :
    runSteps m (afterRounds n s) = .next (afterRounds (n + m) s) := by
  induction m generalizing n with
  | zero => rfl
  | succ m ih =>
    have hstep := (step_default_afterRounds hturns n).trans (engineMove_afterRounds (by omega) s)
    rw [runSteps_succ_of_next hstep, ih (n + 1) (by omega), Nat.add_right_comm, Nat.add_assoc]

/-- Settles O32: what is left of the 20 rounds, and SEQ_FINAL. -/
theorem defaultTurnsReachTheCompletion : Obligations.DefaultTurnsReachTheCompletion := by
  intro s hinv hbusy hturns
  obtain ⟨hblock, -⟩ := (inv_iff s).mp hinv
  obtain ⟨hn, hrounds⟩ := hblock.afterRounds_eq hbusy
  have hrun := runSteps_default_rounds hturns (20 - s.rnd.toNat) s.rnd.toNat (by omega)
  have hlast := (step_default_afterRounds hturns 20).trans (engineMove_afterRounds_twenty (hblock.latchesSigma hbusy))
  rw [hrounds, Nat.add_sub_cancel' hn] at hrun
  refine ⟨20 - s.rnd.toNat + 1, by omega, ?_⟩
  rw [runSteps_add _ 1 hrun, runSteps_succ_of_next hlast]
  rfl

end Sys2Proof.Machine
end

section
/-! Proofs about single accesses: the rejected ones of 60_exceptions.md R160, what a read can see (20_memory.md R70) and
that no move of the host depends on the key (10_state.md R43). -/

namespace Sys2Proof.Machine

/-! ### Accesses that are always rejected -/

theorem eq_byteAddr_of_unmapped {addr : BitVec 8} (halign : addr.extractLsb' 0 2 = 0#2) (hslot : 0x80 ≤ addr.toNat) :
    ∃ low : BitVec 5, addr = byteAddr (0b1#1 ++ low) 0b00#2 := by
  rcases address_cases addr with
    hlow | hunmapped | rfl | rfl | rfl | rfl | rfl | ⟨j, rfl⟩ | ⟨i, rfl⟩ | ⟨k, rfl⟩
  · exact absurd halign hlow
  · exact hunmapped
  all_goals exact absurd hslot (by decide +revert)

/-- Settles O7: an aligned address from 0x80 on is one of ACC_UNMAPPED. -/
theorem unmappedAccessIsRejected : Obligations.UnmappedAccessIsRejected := by
  refine ⟨fun we addr w s halign hslot => ?_, fun dir low s => ?_⟩
  · obtain ⟨low, rfl⟩ := eq_byteAddr_of_unmapped halign hslot
    rw [access_unmapped, accessError_eq, causeCode]
  · rw [exec, execAccUnmapped, accessError_eq, causeCode, byteAddr]

theorem encode_wrOut (k : Fin 16) (w : Word) :
    encode (.wrOut k w) = .ha (0b101#3 ++ BitVec.ofNat 4 k.val ++ 0b00#2) w := by
  have hcmd : ∀ k : Fin 16, cmdOf true (0b01#2 ++ BitVec.ofNat 4 k.val) 0#2 =
      0b101#3 ++ BitVec.ofNat 4 k.val ++ 0b00#2 := by decide
  rw [encode, writePacket, hcmd]

theorem outAddr_eq_append (k : Fin 16) : outAddr k = 0b01#2 ++ BitVec.ofNat 4 k.val ++ 0b00#2 := by
  decide +revert

/-- Settles O8: three rows whose meaning is the rejection. -/
theorem readOnlyWriteIsRejected : Obligations.ReadOnlyWriteIsRejected := by
  refine ⟨fun w s => ⟨decode_encode (.wrId w), ?_⟩, fun w s => ⟨decode_encode (.wrErrinfo w), ?_⟩,
    fun k w s => ⟨encode_wrOut k w ▸ decode_encode (.wrOut k w), ?_⟩⟩
  · rw [exec, execWrId, accessError_eq, causeCode, idAddr]
  · rw [exec, execWrErrinfo, accessError_eq, causeCode, errinfoAddr]
  · rw [exec, execWrOut, accessError_eq, causeCode, outAddr_eq_append]

/-! ### What a read answers -/

/-- Settles O19: the row of RD_OUT takes its index from the command. -/
theorem rdOutReturnsTheLastBlock : Obligations.RdOutReturnsTheLastBlock := by
  refine ⟨fun cmd w hcmd => ⟨outIndexOf cmd, rfl, ?_⟩, exec_rdOut⟩
  exact decode_of_selects (r := ⟨0x040#9, 0x1C3#9, fun c _ => .rdOut (outIndexOf c)⟩) (by simp [haRows])
    (by simp [HaRow.selects, hcmd]) w

/-- The state with another key and another computation: what no read path reaches (10_state.md R20, R43). -/
def withSecrets (k : Vector Word 8) (a b : Words16) (s : State) : State := { s with key := k, s0 := a, x := b }

/-- A word that depends neither on the last response nor on what no read path reaches. -/
structure PublicWord (v : State → Word) : Prop where
  respond : ∀ r e s, v (respond r e s) = v s
  secrets : ∀ k a b s, v (withSecrets k a b s) = v s

/-- Every aligned read below slot 32 is accepted and answers a public word. -/
theorem access_read_public {addr : BitVec 8} (halign : addr.extractLsb' 0 2 = 0#2)
    (hslot : (addr.extractLsb' 2 6).toNat < 32) (w : Word) :
    ∃ v, PublicWord v ∧ ∀ s, access false addr w s = .next (acceptRead (v s) s) := by
  rcases address_cases addr with
    hlow | ⟨low, rfl⟩ | rfl | rfl | rfl | rfl | rfl | ⟨j, rfl⟩ | ⟨i, rfl⟩ | ⟨k, rfl⟩
  · exact absurd halign hlow
  · exact absurd hslot (by decide +revert)
  · exact ⟨fun _ => Config.idValue, ⟨fun _ _ _ => rfl, fun _ _ _ _ => rfl⟩, fun _ => rfl⟩
  · exact ⟨ctrlWord, ⟨fun _ _ _ => rfl, fun _ _ _ _ => rfl⟩, fun _ => rfl⟩
  · exact ⟨statusWord, ⟨fun _ _ _ => rfl, fun _ _ _ _ => rfl⟩, fun _ => rfl⟩
  · exact ⟨errinfoWord, ⟨fun _ _ _ => rfl, fun _ _ _ _ => rfl⟩, fun _ => rfl⟩
  · exact ⟨State.counter, ⟨fun _ _ _ => rfl, fun _ _ _ _ => rfl⟩, fun _ => rfl⟩
  · exact ⟨fun s => s.nonce[j], ⟨fun _ _ _ => rfl, fun _ _ _ _ => rfl⟩, access_nonceAddr_read j w⟩
  · exact ⟨fun _ => 0#32, ⟨fun _ _ _ => rfl, fun _ _ _ _ => rfl⟩, access_keyAddr_read i w⟩
  · exact ⟨fun s => s.out[k], ⟨fun _ _ _ => rfl, fun _ _ _ _ => rfl⟩, access_outAddr_read k w⟩

/-- A read that passes the checks is aligned and below slot 32. -/
theorem mapped_of_accessCause_eq_none {we : Bool} {addr : BitVec 8} {w : Word} {busy : Bool}
    (h : accessCause we addr w busy = none) :
    addr.extractLsb' 0 2 = 0#2 ∧ (addr.extractLsb' 2 6).toNat < 32 := by
  have halign : addr.extractLsb' 0 2 = 0#2 := by
    by_contra hlow
    rw [accessCause_misaligned we w busy hlow] at h
    cases h
  refine ⟨halign, ?_⟩
  by_contra hslot
  rw [accessCause_unmapped halign w busy we (not_lt.mp hslot)] at h
  cases h

/-- Settles O11: the word read does not depend on the response that the read leaves. -/
theorem acceptedReadHasNoSideEffect : Obligations.AcceptedReadHasNoSideEffect := by
  intro addr s haccepted
  obtain ⟨halign, hslot⟩ := mapped_of_accessCause_eq_none haccepted
  obtain ⟨v, hpublic, hread⟩ := access_read_public halign hslot 0#32
  refine ⟨v s, hread s, (hread (acceptRead (v s) s)).trans ?_⟩
  rw [acceptRead, acceptRead, hpublic.respond]
  rfl

/-! ### What the host's move can depend on -/

/-- From two states that differ in the secrets only, `f` leads to two such states. -/
def Hides (f : State → Host.Outcome State Fault Refusal) : Prop :=
  ∀ s k a b, ∃ t k' a' b', f s = .next t ∧ f (withSecrets k a b s) = .next (withSecrets k' a' b' t)

theorem Hides.of_eq {f g : State → Host.Outcome State Fault Refusal} (hg : Hides g) (h : ∀ s, f s = g s) : Hides f :=
  funext h ▸ hg

theorem hides_read {v : State → Word} (hpublic : PublicWord v) : Hides fun s => .next (acceptRead (v s) s) :=
  fun s k a b => ⟨_, k, a, b, rfl, by simp only [hpublic.secrets]; rfl⟩

theorem hides_rejected (code : BitVec 3) (addr : BitVec 8) (we : Bool) :
    Hides fun s => .next (rejected code addr we s) :=
  fun _ k a b => ⟨_, k, a, b, rfl, rfl⟩

theorem hides_accessError (c : Cause) (addr : BitVec 8) (we : Bool) :
    Hides fun s => .next (accessError c addr we s) := by
  simp only [accessError_eq]
  exact hides_rejected _ addr we

theorem hides_guardedWrite {f : State → State} (hinput : InputWrite f) (addr : BitVec 8) :
    Hides fun s => .next (guardedWrite addr f s) := by
  intro s k a b
  cases hbusy : s.busy
  · have hbusy' : (withSecrets k a b s).busy = false := hbusy
    simp only [guardedWrite_of_idle hbusy, guardedWrite_of_idle hbusy']
    cases hinput with
    | counter v => exact ⟨_, k, a, b, rfl, rfl⟩
    | nonce j v => exact ⟨_, k, a, b, rfl, rfl⟩
    | key i v => exact ⟨_, k.set i v, a, b, rfl, rfl⟩
  · have hbusy' : (withSecrets k a b s).busy = true := hbusy
    simp only [guardedWrite_of_busy hbusy, guardedWrite_of_busy hbusy']
    exact ⟨_, k, a, b, rfl, rfl⟩

theorem hides_wrStatus (w : Word) : Hides (exec (.wrStatus w)) :=
  fun s k a b => ⟨_, k, a, b, exec_wrStatus w s, exec_wrStatus w _⟩

/-- A START latches another key into S0 and X, and into nothing else. -/
theorem hides_wrCtrl (w : Word) : Hides (exec (.wrCtrl w)) := by
  intro s k a b
  cases hstart : startField w
  · exact ⟨_, k, a, b, exec_wrCtrl_of_no_start hstart s, exec_wrCtrl_of_no_start hstart _⟩
  · cases hbusy : s.busy
    · exact ⟨_, k, _, _, exec_wrCtrl_of_start hstart hbusy, exec_wrCtrl_of_start hstart hbusy⟩
    · exact ⟨_, k, a, b, exec_wrCtrl_of_start_of_busy hstart hbusy, exec_wrCtrl_of_start_of_busy hstart hbusy⟩

/-- A register hides the secrets where its write does: what its read answers is public. -/
theorem hides_register {addr : BitVec 8} (we : Bool) (w : Word) (halign : addr.extractLsb' 0 2 = 0#2)
    (hslot : (addr.extractLsb' 2 6).toNat < 32) (hwrite : Hides (access true addr w)) : Hides (access we addr w) := by
  cases we
  · obtain ⟨v, hpublic, hread⟩ := access_read_public halign hslot w
    exact (hides_read hpublic).of_eq hread
  · exact hwrite

theorem hides_access (we : Bool) (addr : BitVec 8) (w : Word) : Hides (access we addr w) := by
  rcases address_cases addr with
    hlow | ⟨low, rfl⟩ | rfl | rfl | rfl | rfl | rfl | ⟨j, rfl⟩ | ⟨i, rfl⟩ | ⟨k, rfl⟩
  · exact (hides_rejected _ addr we).of_eq fun s => access_misaligned we w s hlow
  · exact (hides_accessError .unmapped _ we).of_eq (access_unmapped we low w)
  · exact hides_register we w (by decide) (by decide) (hides_accessError .readOnly idAddr true)
  · exact hides_register we w (by decide) (by decide) (hides_wrCtrl w)
  · exact hides_register we w (by decide) (by decide) (hides_wrStatus w)
  · exact hides_register we w (by decide) (by decide) (hides_accessError .readOnly errinfoAddr true)
  · exact hides_register we w (by decide) (by decide) (hides_guardedWrite (.counter w) counterAddr)
  · exact hides_register we w (by decide +revert) (by decide +revert)
      ((hides_guardedWrite (.nonce j w) _).of_eq (access_nonceAddr_write j w))
  · exact hides_register we w (by decide +revert) (by decide +revert)
      ((hides_guardedWrite (.key i w) _).of_eq (access_keyAddr_write i w))
  · exact hides_register we w (by decide +revert) (by decide +revert)
      ((hides_accessError .readOnly _ true).of_eq (access_outAddr_write k w))

theorem pollNext_withSecrets (mask value : Word) (rest : List HostOp) (k : Vector Word 8) (a b : Words16) (t : State) :
    pollNext mask value rest (withSecrets k a b t) = withSecrets k a b (pollNext mask value rest t) := by
  by_cases hdone : t.rdata &&& mask = value <;> simp [pollNext, withSecrets, hdone]

theorem hides_hostMove : Hides hostMove := by
  intro s k a b
  match hhost : s.host with
  | [] => exact ⟨s, k, a, b, by rw [hostMove, hhost], by simp only [hostMove, withSecrets, hhost]⟩
  | .access cmd w :: rest =>
    have hhost' : (withSecrets k a b s).host = .access cmd w :: rest := hhost
    rw [hostMove_access hhost, hostMove_access hhost', runPacket_ha_eq_access, runPacket_ha_eq_access]
    exact hides_access _ _ w { s with host := rest } k a b
  | .poll addr mask value :: rest =>
    have hhost' : (withSecrets k a b s).host = .poll addr mask value :: rest := hhost
    obtain ⟨t, k', a', b', hread, hread'⟩ := hides_access false addr 0#32 s k a b
    refine ⟨_, k', a', b', hostMove_poll hhost hread, ?_⟩
    rw [hostMove_poll hhost' hread', pollNext_withSecrets]

/-- Settles O43: the host's move hides the secrets, and nothing a host can see depends on them. -/
theorem hostMoveDoesNotRevealTheKey : Obligations.HostMoveDoesNotRevealTheKey := by
  intro s k a b
  obtain ⟨t, k', a', b', hmove, hmove'⟩ := hides_hostMove s k a b
  exact ⟨t, k', a', b', hmove, hmove', rfl⟩

/-- Settles O35: `Reset()` writes neither the ports nor what is not KSG's. -/
theorem resetKeepsTheResponseAndTheHost : Obligations.ResetKeepsTheResponseAndTheHost :=
  fun s ts hturns => ⟨resetEdge { s with turns := ts }, step_of_turns_cons hturns, rfl, rfl, rfl, rfl⟩

end Sys2Proof.Machine
end

section
/-! Proofs about runs: the order within one clock edge (60_exceptions.md R169), and that every accepted START completes
(70_reset_and_hazards.md R201, R202). -/

namespace Sys2Proof.Machine

/-! ### The host's turn -/

/-- No access touches the host's program or the turns. -/
theorem AccessEffect.environment {we : Bool} {addr : BitVec 8} {w : Word} {s t : State}
    (h : AccessEffect we addr w s t) : t.host = s.host ∧ t.turns = s.turns := by
  cases h with
  | answer | error | enables | start | status => exact ⟨rfl, rfl⟩
  | input hinput => cases hinput <;> exact ⟨rfl, rfl⟩

theorem HostEffect.turns {s t : State} (h : HostEffect s t) : t.turns = s.turns := by
  cases h with
  | wait => rfl
  | access hhost heffect =>
    obtain ⟨-, hturns⟩ := heffect.environment
    exact hturns
  | @poll addr t mask value rest heffect =>
    obtain ⟨host, hpoll⟩ := pollNext_eq mask value rest t
    obtain ⟨-, hturns⟩ := heffect.environment
    rw [hpoll, hturns]

theorem HostEffect.keeps_of_busy {s t : State} (h : HostEffect s t) (hbusy : s.busy = true) : KeepsComputation s t := by
  rcases h.keeps_or_starts with hkeeps | ⟨w, rest, -, -, hidle, -⟩
  · exact hkeeps
  · exact absurd (hbusy.symm.trans hidle) Bool.noConfusion

/-- While BUSY the host's turn leaves the computation alone. -/
theorem step_host_of_busy {s : State} {ts : List Turn} (hturns : s.turns = .host :: ts) (hbusy : s.busy = true) :
    ∃ t, step s = .next t ∧ KeepsComputation s t ∧ t.turns = ts := by
  obtain ⟨t, hmove, heffect⟩ := hostMove_effect { s with turns := ts }
  refine ⟨t, (step_of_turns_cons hturns).trans hmove, ?_, heffect.turns⟩
  exact { heffect.keeps_of_busy hbusy with }

theorem step_complete_of_busy {s : State} {ts : List Turn} (hturns : s.turns = .complete :: ts)
    (hbusy : s.busy = true) : step s = .next (complete { s with turns := ts }) :=
  (step_of_turns_cons hturns).trans (completeMove_of_busy hbusy)

/-! ### One edge -/

/-- An access that a check rejects answers err = 1 and sets ERR. -/
theorem access_rejects {we : Bool} {addr : BitVec 8} {w : Word} {s t : State}
    (hcause : accessCause we addr w s.busy ≠ none) (haccess : access we addr w s = .next t) :
    t.errOut = true ∧ t.err = true := by
  obtain ⟨hrejects, -⟩ := accessChecksDecide we addr w s
  obtain ⟨c, hc⟩ := Option.ne_none_iff_exists'.mp hcause
  obtain rfl := Host.Outcome.next.inj (haccess.symm.trans (hrejects c hc))
  exact ⟨rfl, rfl⟩

/-- Settles O47: the access leaves BUSY alone, and the completion after it leaves the response and ERR alone. -/
theorem sameEdgeOrder : Obligations.SameEdgeOrder := by
  intro s ts cmd w rest hbusy hhost hturns
  obtain ⟨t, haccess, heffect⟩ := hasEffect_access (cmd.getLsbD 8) (cmd.extractLsb' 0 8) w
    { s with turns := .complete :: ts, host := rest }
  obtain ⟨htHost, htTurns⟩ := heffect.environment
  have hmove : step s = .next t := by
    rw [step_of_turns_cons (u := .host) (ts := .complete :: ts) hturns, takeTurn,
      hostMove_access (s := { s with turns := .complete :: ts }) hhost, runPacket_ha_eq_access, haccess]
  have htBusy : t.busy = true := by
    obtain ⟨u, hu, hblock⟩ := keepsBlock_access (s := { s with turns := .complete :: ts, host := rest }) hbusy
      (cmd.getLsbD 8) (cmd.extractLsb' 0 8) w
    obtain rfl := Host.Outcome.next.inj (haccess.symm.trans hu)
    exact hblock.busy.trans hbusy
  have hrejects : accessCause (cmd.getLsbD 8) (cmd.extractLsb' 0 8) w true ≠ none → t.errOut = true ∧ t.err = true :=
    fun hcause => access_rejects (hbusy.symm ▸ hcause) haccess
  refine ⟨complete { t with turns := ts }, ?_, rfl, rfl, rfl, htHost, ?_, ?_, hrejects⟩
  · rw [runSteps_succ_of_next hmove, runSteps_succ_of_next (step_complete_of_busy htTurns htBusy)]
    rfl
  · rintro rfl
    obtain rfl := Host.Outcome.next.inj (haccess.symm.trans (exec_wrStatus w _))
    rfl
  · rintro rfl hstart
    have hcause : accessCause true ctrlAddr w true = some .busyStart := by
      rw [accessCause_ctrl, startField, hstart]
      rfl
    exact hrejects (hcause ▸ Option.some_ne_none _)

/-! ### Every latency -/

theorem KeepsComputation.trans {s t u : State} (h : KeepsComputation s t) (h' : KeepsComputation t u) :
    KeepsComputation s u where
  busy := h'.busy.trans h.busy
  phase := h'.phase.trans h.phase
  rnd := h'.rnd.trans h.rnd
  s0 := h'.s0.trans h.s0
  x := h'.x.trans h.x
  out := h'.out.trans h.out
  done hdone := h.done (h'.done hdone)
  inputs hbusy := (h'.inputs (h.busy.trans hbusy)).trans (h.inputs hbusy)

/-- The edges of a latency: host turns, and the completion last. -/
theorem latencyTurns_eq {reqs : List Bool} (h : reqs ≠ []) :
    ∃ n, latencyTurns reqs = List.replicate n .host ++ [.complete] := by
  induction reqs with
  | nil => exact absurd rfl h
  | cons req reqs ih =>
    cases reqs with
    | nil =>
      cases req
      · exact ⟨0, rfl⟩
      · exact ⟨1, rfl⟩
    | cons next reqs =>
      obtain ⟨n, hn⟩ := ih (List.cons_ne_nil next reqs)
      cases req
      · exact ⟨n, hn⟩
      · exact ⟨n + 1, congrArg (Turn.host :: ·) hn⟩

theorem runSteps_host_turns (n : Nat) {s : State} {ts : List Turn} (hturns : s.turns = List.replicate n .host ++ ts)
    (hbusy : s.busy = true) : ∃ t, runSteps n s = .next t ∧ KeepsComputation s t ∧ t.turns = ts := by
  induction n generalizing s with
  | zero => exact ⟨s, rfl, ⟨rfl, rfl, rfl, rfl, rfl, rfl, id, fun _ => rfl⟩, hturns⟩
  | succ n ih =>
    obtain ⟨u, hstep, hkeeps, huTurns⟩ := step_host_of_busy hturns hbusy
    obtain ⟨t, hrun, hkeeps', htTurns⟩ := ih huTurns (hkeeps.busy.trans hbusy)
    exact ⟨t, (runSteps_succ_of_next hstep n).trans hrun, hkeeps.trans hkeeps', htTurns⟩

/-- What a completion leaves of the block of `y` (41_block_function.md R142). -/
structure Published (y : Words16) (s : State) : Prop where
  busy : s.busy = false
  done : s.done = true
  phase : s.phase = 0b00#2
  out : s.out = blockWords Config.sigma (keyWords y) y[12] (nonceWords y)
  counter : s.counter = y[12] + 1#32

theorem published_complete (s : State) : Published s.s0 (complete s) := ⟨rfl, rfl, rfl, rfl, rfl⟩

/-- After a run that ends before a completion turn of a busy state, that turn publishes. -/
theorem runSteps_then_complete {n : Nat} {s t : State} {ts : List Turn} (hrun : runSteps n s = .next t)
    (hturns : t.turns = .complete :: ts) (hbusy : t.busy = true) :
    ∃ u, runSteps (n + 1) s = .next u ∧ Published t.s0 u ∧ u.turns = ts := by
  refine ⟨_, ?_, published_complete { t with turns := ts }, rfl⟩
  rw [runSteps_add n 1 hrun, runSteps_succ_of_next (step_complete_of_busy hturns hbusy)]
  rfl

theorem completes_at_end_of_latency {reqs : List Bool} (hreqs : reqs ≠ []) {s : State} (ts : List Turn)
    (hbusy : s.busy = true) :
    ∃ t, runSteps (latencyTurns reqs).length { s with turns := latencyTurns reqs ++ ts } = .next t ∧
      Published s.s0 t ∧ t.turns = ts := by
  obtain ⟨n, hlatency⟩ := latencyTurns_eq hreqs
  obtain ⟨t, hrun, hkeeps, hturns⟩ := runSteps_host_turns n (ts := .complete :: ts)
    (s := { s with turns := latencyTurns reqs ++ ts }) (by simp [hlatency]) hbusy
  obtain ⟨u, hlast, hpublished, huTurns⟩ := runSteps_then_complete hrun hturns (hkeeps.busy.trans hbusy)
  refine ⟨u, ?_, hkeeps.s0 ▸ hpublished, huTurns⟩
  rw [hlatency, List.length_append, List.length_replicate, List.length_singleton, ← hlatency]
  exact hlast

/-! ### Every schedule of host and engine -/

/-- The computation from the input state `y`, `n` rounds into it. -/
structure Computing (y : Words16) (n : Nat) (s : State) : Prop where
  busy : s.busy = true
  done : s.done = false
  s0 : s.s0 = y
  x : s.x = roundTimes n y
  rnd : s.rnd = BitVec.ofNat 5 n
  phase : s.phase = if n < 20 then 0b01#2 else 0b10#2

theorem Computing.afterRounds_eq {y : Words16} {n : Nat} {s : State} (h : Computing y n s) : afterRounds n s = s := by
  obtain ⟨-, -, rfl, hx, hrnd, hphase⟩ := h
  rw [afterRounds, ← hx, ← hrnd, ← hphase]

theorem Computing.of_keeps {y : Words16} {n : Nat} {s t : State} (h : Computing y n s) (hkeeps : KeepsComputation s t) :
    Computing y n t where
  busy := hkeeps.busy.trans h.busy
  done := Bool.eq_false_iff.mpr fun hdone => Bool.eq_false_iff.mp h.done (hkeeps.done hdone)
  s0 := hkeeps.s0.trans h.s0
  x := hkeeps.x.trans h.x
  rnd := hkeeps.rnd.trans h.rnd
  phase := hkeeps.phase.trans h.phase

theorem computing_afterStart (w : Word) (s : State) (ts : List Turn) :
    Computing (latchedInputs s) 0 { afterStart w s with turns := ts } := ⟨rfl, rfl, rfl, rfl, rfl, rfl⟩

section Engine

variable {y : Words16} {n : Nat} {s : State} {ts : List Turn} (h : Computing y n s) (hturns : s.turns = .engine :: ts)
include h hturns

theorem Computing.step_engine (hn : n < 20) : ∃ t, step s = .next t ∧ Computing y (n + 1) t ∧ t.turns = ts := by
  have hmove := engineMove_afterRounds hn { s with turns := ts }
  have hrounds : afterRounds n { s with turns := ts } = { s with turns := ts } :=
    Computing.afterRounds_eq { h with }
  rw [hrounds] at hmove
  refine ⟨_, (step_of_turns_cons hturns).trans hmove, ⟨h.busy, h.done, h.s0, ?_, rfl, rfl⟩, rfl⟩
  exact congrArg (roundTimes (n + 1)) h.s0

theorem Computing.step_engine_last (hy : initState Config.sigma (keyWords y) y[12] (nonceWords y) = y) (hn : n = 20) :
    ∃ t, step s = .next t ∧ Published y t ∧ t.turns = ts := by
  subst hn
  have hlatch : LatchesSigma { s with turns := ts } := by rw [LatchesSigma, h.s0, hy]
  have hmove := engineMove_afterRounds_twenty hlatch
  have hrounds : afterRounds 20 { s with turns := ts } = { s with turns := ts } :=
    Computing.afterRounds_eq { h with }
  rw [hrounds] at hmove
  obtain ⟨busy, done, phase, out, counter⟩ := published_complete s
  rw [h.s0] at out counter
  exact ⟨_, (step_of_turns_cons hturns).trans hmove, ⟨busy, done, phase, out, counter⟩, rfl⟩

end Engine

/-- Host turns leave the computation where it is, and each of the engine's turns performs a round. -/
theorem Computing.run_schedule {y : Words16} (sched : List Turn) (hsched : ∀ u ∈ sched, u = .host ∨ u = .engine)
    {n : Nat} {s : State} {ts : List Turn} (h : Computing y n s) (hturns : s.turns = sched ++ ts)
    (hn : n + sched.count .engine ≤ 20) :
    ∃ t, runSteps sched.length s = .next t ∧ Computing y (n + sched.count .engine) t ∧ t.turns = ts := by
  induction sched generalizing n s with
  | nil => exact ⟨s, rfl, h, hturns⟩
  | cons u sched ih =>
    have hrest : ∀ v ∈ sched, v = .host ∨ v = .engine := fun v hv => hsched v (List.mem_cons_of_mem u hv)
    rcases hsched u List.mem_cons_self with rfl | rfl
    · rw [List.count_cons_of_ne (by decide)] at hn ⊢
      obtain ⟨v, hstep, hkeeps, hvTurns⟩ := step_host_of_busy hturns h.busy
      obtain ⟨t, hrun, ht⟩ := ih hrest (h.of_keeps hkeeps) hvTurns hn
      exact ⟨t, (runSteps_succ_of_next hstep _).trans hrun, ht⟩
    · rw [List.count_cons_self] at hn ⊢
      obtain ⟨v, hstep, hv, hvTurns⟩ := h.step_engine hturns (by omega)
      obtain ⟨t, hrun, ht⟩ := ih hrest hv hvTurns (by omega)
      rw [Nat.add_comm _ 1, ← Nat.add_assoc]
      exact ⟨t, (runSteps_succ_of_next hstep _).trans hrun, ht⟩

section Schedule

variable {y : Words16} {s : State} {sched ts : List Turn} {last : Turn} (h : Computing y 0 s)
  (hsched : ∀ u ∈ sched, u = .host ∨ u = .engine) (hturns : s.turns = sched ++ last :: ts)
include h hsched hturns

theorem Computing.busy_until {k : Nat} (hcount : sched.count .engine ≤ 20) (hk : k ≤ sched.length) :
    ∃ u, runSteps k s = .next u ∧ u.busy = true ∧ u.done = false := by
  have htake : (sched.take k).count .engine ≤ sched.count .engine := (List.take_sublist k sched).count_le _
  obtain ⟨u, hrun, hu, -⟩ := h.run_schedule (sched.take k) (fun v hv => hsched v (List.mem_of_mem_take hv))
    (ts := sched.drop k ++ last :: ts) (by rw [hturns, ← List.append_assoc, List.take_append_drop]) (by omega)
  rw [List.length_take_of_le hk] at hrun
  exact ⟨u, hrun, hu.busy, hu.done⟩

theorem Computing.completes (hy : initState Config.sigma (keyWords y) y[12] (nonceWords y) = y)
    (hlast : (last = .engine ∧ sched.count .engine = 20) ∨ (last = .complete ∧ sched.count .engine ≤ 20)) :
    ∃ t, runSteps (sched.length + 1) s = .next t ∧ Published y t ∧ t.turns = ts := by
  have hcount : 0 + sched.count .engine ≤ 20 := by omega
  obtain ⟨u, hrun, hu, huTurns⟩ := h.run_schedule sched hsched hturns hcount
  rcases hlast with ⟨rfl, hcount⟩ | ⟨rfl, -⟩
  · obtain ⟨t, hstep, ht⟩ := hu.step_engine_last huTurns hy (by omega)
    refine ⟨t, ?_, ht⟩
    rw [runSteps_add _ 1 hrun, runSteps_succ_of_next hstep]
    rfl
  · exact hu.s0 ▸ runSteps_then_complete hrun huTurns hu.busy

end Schedule

/-- Settles O31: host turns leave the computation alone; an engine turn is a round of it, and the 21st its completion,
as a completion turn is anywhere before. -/
theorem startCompletesForEveryLatency : Obligations.StartCompletesForEveryLatency := by
  refine ⟨fun reqs s ts hreqs hbusy => ?_,
    fun w s hstart hidle => ⟨afterStart w s, exec_wrCtrl_afterStart hstart hidle, ?_⟩⟩
  · obtain ⟨t, hrun, ⟨busy, done, phase, out, counter⟩, hturns⟩ := completes_at_end_of_latency hreqs ts hbusy
    exact ⟨t, hrun, busy, done, phase, hturns, out, counter⟩
  · intro sched ts last hsched hlast
    have hstarted := computing_afterStart w s (sched ++ last :: ts)
    have hy : initState Config.sigma (keyWords (latchedInputs s)) (latchedInputs s)[12] (nonceWords (latchedInputs s)) =
        latchedInputs s := initState_of_words rfl rfl rfl rfl
    refine ⟨fun k hk => hstarted.busy_until hsched rfl (by omega) hk, ?_⟩
    obtain ⟨t, hrun, ⟨busy, done, phase, out, counter⟩, hturns⟩ := hstarted.completes hsched rfl hy hlast
    refine ⟨t, hrun, busy, done, phase, hturns, ?_, counter⟩
    rw [out, latchedInputs, keyWords_initState, nonceWords_initState]
    rfl

end Sys2Proof.Machine
end

section
/-! Proofs about the quarter-round (41_block_function.md R132), the byte order of words (00_scope.md R11) and the host's
software (41_block_function.md R147, R148). -/

namespace Sys2Proof.Machine

/-! ### The quarter-round's words -/

theorem getElem_set_words16 (x : Words16) (a i : Fin 16) (v : Word) :
    (x.set a v)[i] = if i = a then v else x[i] := by
  simp [Vector.getElem_set, Fin.ext_iff, eq_comm]

theorem quarterStep_getElem {a b d : Fin 16} (had : a ≠ d) (n : Nat) (x : Words16) (i : Fin 16) :
    (quarterStep a b d n x)[i] =
      if i = d then rotl32 (x[d] ^^^ (x[a] + x[b])) n else if i = a then x[a] + x[b] else x[i] := by
  simp only [quarterStep, getElem_set_words16, add32, xor32, had.symm, if_true, if_false]

/-- Settles O51: the four statements in order, each reading what those before it left. -/
theorem quarterRoundFollowsTheRule : Obligations.QuarterRoundFollowsTheRule := by
  intro a b c d x hab hac had hbc hbd hcd
  refine ⟨_, _, _, _, _, _, _, _, rfl, rfl, rfl, rfl, rfl, rfl, rfl, rfl, ?_, ?_, ?_, ?_, fun i hia hib hic hid => ?_⟩
  all_goals
    simp only [qr, quarterStep_getElem had, quarterStep_getElem hbc.symm, *, hab.symm, hac.symm, had.symm, hbc.symm,
      hbd.symm, hcd.symm, if_true, if_false]

/-! ### The quarter-round's inverse -/

/-- Replacing one word by a function of it that the other words make invertible is a bijection of the state. -/
theorem bijective_set_word (d : Fin 16) {f g : Words16 → Word → Word} (hf : ∀ x u v, f (x.set d u) v = f x v)
    (hg : ∀ x u v, g (x.set d u) v = g x v) (hgf : ∀ x v, g x (f x v) = v) (hfg : ∀ x v, f x (g x v) = v) :
    Function.Bijective fun x : Words16 => x.set d (f x x[d]) := by
  have hinverse : ∀ {f g : Words16 → Word → Word}, (∀ x u v, g (x.set d u) v = g x v) → (∀ x v, g x (f x v) = v) →
      ∀ x : Words16, (x.set d (f x x[d])).set d (g (x.set d (f x x[d])) (x.set d (f x x[d]))[d]) = x := by
    intro f g hg hgf x
    refine words16_ext fun i => ?_
    by_cases hi : i = d <;> simp only [getElem_set_words16, hg, hgf, hi, if_true, if_false]
  exact Function.bijective_iff_has_inverse.mpr ⟨fun x => x.set d (g x x[d]), hinverse hg hgf, hinverse hf hfg⟩

theorem rotl32_sub_rotl32 (x : Word) {n : Nat} (hpos : 1 ≤ n) (hn : n ≤ 31) : rotl32 (rotl32 x (32 - n)) n = x := by
  have h := rotl32_rotl32_sub x (n := 32 - n) (by omega) (by omega)
  rwa [Nat.sub_sub_self (by omega)] at h

theorem quarterStep_bijective {a b d : Fin 16} (hab : a ≠ b) (had : a ≠ d) {n : Nat} (hpos : 1 ≤ n) (hn : n ≤ 31) :
    Function.Bijective (quarterStep a b d n) := by
  have hadd : Function.Bijective fun x : Words16 => x.set a (add32 x[a] x[b]) :=
    bijective_set_word a (f := fun x v => add32 v x[b]) (g := fun x v => v - x[b])
      (fun x u v => by simp only [getElem_set_words16, if_neg hab.symm])
      (fun x u v => by simp only [getElem_set_words16, if_neg hab.symm])
      (fun x v => BitVec.add_sub_cancel v x[b]) (fun x v => BitVec.sub_add_cancel v x[b])
  have hrot : Function.Bijective fun y : Words16 => y.set d (rotl32 (xor32 y[d] y[a]) n) :=
    bijective_set_word d (f := fun y v => rotl32 (xor32 v y[a]) n) (g := fun y v => xor32 (rotl32 v (32 - n)) y[a])
      (fun y u v => by simp only [getElem_set_words16, if_neg had])
      (fun y u v => by simp only [getElem_set_words16, if_neg had])
      (fun y v => by simp only [rotl32_rotl32_sub _ hpos hn, xor32, BitVec.xor_assoc, BitVec.xor_self, BitVec.xor_zero])
      (fun y v => by simp only [xor32, BitVec.xor_assoc, BitVec.xor_self, BitVec.xor_zero, rotl32_sub_rotl32 _ hpos hn])
  exact hrot.comp hadd

/-- Settles O52: the quarter-round is four steps, each a bijection. -/
theorem quarterRoundIsInvertible : Obligations.QuarterRoundIsInvertible := by
  intro a b c d hab hac had hbc hbd hcd
  have h16 : Function.Bijective (quarterStep a b d 16) := quarterStep_bijective hab had (by decide) (by decide)
  have h12 : Function.Bijective (quarterStep c d b 12) := quarterStep_bijective hcd hbc.symm (by decide) (by decide)
  have h8 : Function.Bijective (quarterStep a b d 8) := quarterStep_bijective hab had (by decide) (by decide)
  have h7 : Function.Bijective (quarterStep c d b 7) := quarterStep_bijective hcd hbc.symm (by decide) (by decide)
  exact h7.comp (h8.comp (h12.comp h16))

/-! ### The byte order of a word -/

theorem toNat_append_byte {n : Nat} (hi : BitVec n) (b : Byte) : (hi ++ b).toNat = 256 * hi.toNat + b.toNat := by
  rw [BitVec.toNat_append, ← Nat.shiftLeft_add_eq_or_of_lt b.isLt, Nat.shiftLeft_eq, Nat.mul_comm]

theorem toNat_le32 (b0 b1 b2 b3 : Byte) :
    (le32 b0 b1 b2 b3).toNat = b0.toNat + 256 * b1.toNat + 65536 * b2.toNat + 16777216 * b3.toNat := by
  rw [le32, toNat_append_byte, toNat_append_byte, toNat_append_byte]
  omega

theorem bytesLe32_le32 (b0 b1 b2 b3 : Byte) : bytesLe32 (le32 b0 b1 b2 b3) = [b0, b1, b2, b3] := by
  have hbytes := extractLsb'_le32_getElem #v[b0, b1, b2, b3] 0 (by decide)
  exact congr (congrArg _ (hbytes 0)) (congr (congrArg _ (hbytes 1)) (congr (congrArg _ (hbytes 2))
    (congrArg (· :: []) (hbytes 3))))

theorem le32_extractLsb' (w : Word) :
    le32 (w.extractLsb' 0 8) (w.extractLsb' 8 8) (w.extractLsb' 16 8) (w.extractLsb' 24 8) = w := by
  rw [le32, BitVec.extractLsb'_append_extractLsb'_eq_extractLsb' (by decide),
    BitVec.extractLsb'_append_extractLsb'_eq_extractLsb' (by decide),
    BitVec.extractLsb'_append_extractLsb'_eq_extractLsb' (by decide)]
  exact BitVec.extractLsb'_eq_self

/-- Settles O48: a word is its four bytes, the first one lowest. -/
theorem le32IsLittleEndian : Obligations.Le32IsLittleEndian :=
  ⟨fun b0 b1 b2 b3 => ⟨toNat_le32 b0 b1 b2 b3, bytesLe32_le32 b0 b1 b2 b3⟩,
    fun w => ⟨_, _, _, _, rfl, le32_extractLsb' w⟩⟩

/-! ### The transform -/

theorem length_keystream (sigma : Vector Word 4) (k : Vector Word 8) (n : Vector Word 3) (nb : Nat) :
    (keystream sigma k n nb).length = 64 * nb := by
  have hblock : ∀ c, (block sigma k n c).length = 64 := fun c => (serialisationIsLittleEndian _).1
  simp [keystream, List.length_flatMap, hblock, Nat.mul_comm]

theorem zipWith_xor_zipWith_xor {m ks : List Byte} (h : m.length ≤ ks.length) :
    List.zipWith (· ^^^ ·) (List.zipWith (· ^^^ ·) m ks) ks = m := by
  induction m generalizing ks with
  | nil => rfl
  | cons b m ih =>
    cases ks with
    | nil => cases h
    | cons kb ks =>
      have hbyte : b ^^^ kb ^^^ kb = b := by rw [BitVec.xor_assoc, BitVec.xor_self, BitVec.xor_zero]
      rw [List.zipWith_cons_cons, List.zipWith_cons_cons, hbyte, ih (Nat.le_of_succ_le_succ h)]

/-- Settles O58: there are blocks enough for the message, and the same ones for its transform, which is as long. -/
theorem transformIsItsOwnInverse : Obligations.TransformIsItsOwnInverse := by
  intro sigma m k n
  have henough : m.length ≤ (keystream sigma k n ((m.length + 63) / 64)).length := by
    rw [length_keystream]
    omega
  have hlength : (transform sigma m k n).length = m.length := by
    rw [transform, List.length_zipWith, Nat.min_eq_left henough]
  refine ⟨hlength, ?_⟩
  rw [transform, hlength]
  exact zipWith_xor_zipWith_xor henough

/-! ### Key normalisation -/

/-- Byte i of a list repeated is byte i mod n of the list. -/
theorem getElem?_flatten_replicate {α : Type} (p : List α) {copies i : Nat} (h : i < copies * p.length) :
    (List.replicate copies p).flatten[i]? = p[i % p.length]? := by
  induction copies generalizing i with
  | zero => omega
  | succ copies ih =>
    rw [List.replicate_succ, List.flatten_cons]
    by_cases hi : i < p.length
    · rw [List.getElem?_append_left hi, Nat.mod_eq_of_lt hi]
    · have hle : p.length ≤ i := not_lt.mp hi
      rw [Nat.succ_mul] at h
      rw [List.getElem?_append_right hle, ih (by omega), ← Nat.mod_eq_sub_mod hle]

/-- R148 takes enough copies. -/
theorem enough_copies {n : Nat} (h : 0 < n) : 32 ≤ ((32 + n - 1) / n + 1) * n := by
  have hdiv := Nat.div_add_mod (32 + n - 1) n
  have hmod := Nat.mod_lt (32 + n - 1) h
  rw [Nat.add_mul, Nat.mul_comm]
  omega

/-- Settles O59: the first 32 bytes of copies enough of the passphrase. -/
theorem normKeyRepeatsThePassphrase : Obligations.NormKeyRepeatsThePassphrase := by
  refine ⟨rfl, fun p hp => ?_⟩
  have hpos : 0 < p.length := List.length_pos_iff.mpr hp
  have hcopies := enough_copies hpos
  refine ⟨_, by rw [normKey, if_neg hpos.ne'], ?_, fun i hi => ?_⟩
  · rw [List.length_take, List.length_flatten, List.map_replicate, List.sum_replicate, smul_eq_mul,
      Nat.min_eq_left hcopies]
  · rw [List.getElem?_take_of_lt hi, getElem?_flatten_replicate p (by omega)]

end Sys2Proof.Machine
end

section
/-! Proofs about several copies of KSG on one platform (60_exceptions.md R173). -/

namespace Sys2Proof.Machine

/-! ### One step of the platform -/

theorem platformStep_of_next {n : Nat} {p : List State} {s t : State} (hs : p[n]? = some s) (hstep : step s = .next t) :
    platformStep n p = .next (p.set n t) := by
  simp only [platformStep, hs, hstep]

theorem platformStep_of_fault {n : Nat} {p : List State} {s : State} {r : Fault} (hs : p[n]? = some s)
    (hstep : step s = .fault r) : platformStep n p = .fault r := by
  simp only [platformStep, hs, hstep]

theorem platformStep_of_refused {n : Nat} {p : List State} {s : State} {r : Refusal} (hs : p[n]? = some s)
    (hstep : step s = .refused r) : platformStep n p = .refused r := by
  simp only [platformStep, hs, hstep]

theorem getElem?_set_of_some {p : List State} {n : Nat} {s : State} (hs : p[n]? = some s) (t : State) :
    (p.set n t)[n]? = some t := by
  obtain ⟨hlt, -⟩ := List.getElem?_eq_some_iff.mp hs
  rw [List.getElem?_set_self hlt]

/-- A step that answers is nobody's, or one copy's own step in its own place. -/
theorem platformStep_next {n : Nat} {p q : List State} (h : platformStep n p = .next q) :
    (p[n]? = none ∧ q = p) ∨ (∃ s t, p[n]? = some s ∧ step s = .next t ∧ q = p.set n t) := by
  rcases platformStep_cases n p with
    ⟨hnone, hstep⟩ | ⟨s, hs, ⟨t, ht, hstep⟩ | ⟨r, -, hstep⟩ | ⟨r, -, hstep⟩⟩ <;> rw [hstep] at h
  · exact .inl ⟨hnone, (Host.Outcome.next.inj h).symm⟩
  · exact .inr ⟨s, t, hs, ht, (Host.Outcome.next.inj h).symm⟩
  · cases h
  · cases h

theorem platformStep_others {n : Nat} {p q : List State} (h : platformStep n p = .next q) {m : Nat} (hne : m ≠ n) :
    q[m]? = p[m]? := by
  rcases platformStep_next h with ⟨-, rfl⟩ | ⟨s, t, -, -, rfl⟩
  · rfl
  · exact List.getElem?_set_ne hne.symm

theorem platformStep_length {n : Nat} {p q : List State} (h : platformStep n p = .next q) : q.length = p.length := by
  rcases platformStep_next h with ⟨-, rfl⟩ | ⟨s, t, -, -, rfl⟩
  · rfl
  · exact List.length_set

theorem platformStep_self {n : Nat} {p q : List State} {s : State} (h : platformStep n p = .next q)
    (hs : p[n]? = some s) : ∃ t, step s = .next t ∧ q[n]? = some t := by
  rcases platformStep_next h with ⟨hnone, -⟩ | ⟨u, t, hu, hstep, rfl⟩
  · cases hs.symm.trans hnone
  · obtain rfl := Option.some.inj (hs.symm.trans hu)
    exact ⟨t, hstep, getElem?_set_of_some hs t⟩

/-! ### A run of the platform -/

theorem platformRun_cons {n : Nat} {ns : List Nat} {p q : List State} (h : platformRun (n :: ns) p = .next q) :
    ∃ p', platformStep n p = .next p' ∧ platformRun ns p' = .next q := by
  rw [platformRun] at h
  split at h
  · exact ⟨_, ‹_›, h⟩
  · cases h
  · cases h

theorem platformRun_length {ns : List Nat} {p q : List State} (h : platformRun ns p = .next q) :
    q.length = p.length := by
  induction ns generalizing p with
  | nil => rw [Host.Outcome.next.inj h]
  | cons n ns ih =>
    obtain ⟨p', hstep, hrun⟩ := platformRun_cons h
    exact (ih hrun).trans (platformStep_length hstep)

/-- After any order of steps each copy stands where its own steps alone take it. -/
theorem platformRun_own_steps {ns : List Nat} {p q : List State} (h : platformRun ns p = .next q) {m : Nat} {s : State}
    (hs : p[m]? = some s) : ∃ t, runSteps (ns.count m) s = .next t ∧ q[m]? = some t := by
  induction ns generalizing p s with
  | nil => exact ⟨s, rfl, Host.Outcome.next.inj h ▸ hs⟩
  | cons n ns ih =>
    obtain ⟨p', hstep, hrun⟩ := platformRun_cons h
    by_cases hmn : n = m
    · subst hmn
      obtain ⟨u, hown, hu⟩ := platformStep_self hstep hs
      obtain ⟨t, hrest, ht⟩ := ih hrun hu
      rw [List.count_cons_self]
      exact ⟨t, (runSteps_succ_of_next hown _).trans hrest, ht⟩
    · rw [List.count_cons_of_ne hmn]
      exact ih hrun ((platformStep_others hstep (Ne.symm hmn)).trans hs)

theorem step_read_id {s : State} {ts : List Turn} {w : Word} {rest : List HostOp} (hturns : s.turns = .host :: ts)
    (hhost : s.host = .access 0x000#9 w :: rest) :
    step s = .next { s with turns := ts, host := rest, rdata := 0x4B534731#32, errOut := false } := by
  rw [step_of_turns_cons hturns, takeTurn, hostMove_access (s := { s with turns := ts }) hhost]
  rfl

/-- Settles O60: a step of one copy is its own step in its own place, and so is every step of a run. -/
theorem instancesShareNoState : Obligations.InstancesShareNoState := by
  refine ⟨fun n p s t hs hstep => ?_,
    fun n p s hs => ⟨fun r => platformStep_of_fault hs, fun r => platformStep_of_refused hs⟩,
    fun n p q h m => platformStep_others h, fun ns p q h => ⟨platformRun_length h, fun m s => platformRun_own_steps h⟩,
    fun n p s ts w rest hs hturns hhost => ?_⟩
  · have hplatform := platformStep_of_next hs hstep
    exact ⟨_, hplatform, platformStep_length hplatform, getElem?_set_of_some hs t,
      fun m => platformStep_others hplatform⟩
  · exact ⟨_, platformStep_of_next hs (step_read_id hturns hhost), getElem?_set_of_some hs _⟩

end Sys2Proof.Machine
end
